-- ==== Sys2Proof/Word.lean ====
section
/-! DEFINITION. The word types of the ememu core (spec/00_scope.md R7, R9; spec/10_state.md R100). -/

namespace Sys2Proof

/-- One byte, the smallest addressable unit (R7). -/
abbrev Byte := BitVec 8

/-- A 16-bit Thumb halfword (R302). -/
abbrev Half := BitVec 16

/-- A 32-bit word: a register cell, an address, an ARM instruction (R7, R100). -/
abbrev Word := BitVec 32

/-- A 64-bit product or accumulator of the long multiplies (R453 to R456). -/
abbrev DWord := BitVec 64

end Sys2Proof
end

