-- ==== Sys2Proof/Config.lean ====
section
/-! DEFINITION. What an implementation fixes (spec/00_scope.md R8) and the model's free values.
The named parameters IRQ_LR_OFFSET, ABSENT_CP_POLICY, CP15_MIDR, CP15_CTR, the bus map and the
interrupt lines are plain data in State, so that every statement about all states is about all
their values; this file has their types and what State.reset takes for them. -/

namespace Sys2Proof

/-- The parameter IRQ_LR_OFFSET of R8 and R913: 8 is the source's value and the default, 4 the
architectural one. -/
inductive LrOffset where
  | eight
  | four
  deriving DecidableEq, Repr

/-- The number of bytes that IRQ and FIQ entry adds to the raw PC (R913). -/
def LrOffset.toWord : LrOffset → Word
  | .eight => 8#32
  | .four => 4#32

/-- The parameter ABSENT_CP_POLICY of R8 and R700: what an instruction naming a coprocessor other
than 15 does. -/
inductive AbsentCp where
  | unsupported
  | undefined
  deriving DecidableEq, Repr

namespace Config

/-- Default of IRQ_LR_OFFSET (R8). -/
def irqLrOffset : LrOffset := .eight

/-- Default of ABSENT_CP_POLICY (R8). -/
def absentCp : AbsentCp := .unsupported

/-- Default of HIVECS_INIT (R8): the reset value of the control register's V bit (R124). -/
def hivecsInit : Bool := false

/-- CP15_MIDR (R8, R121): "unspecified, a draw fixed per machine". A free value, log entry 7. -/
opaque cp15Midr : Word

/-- CP15_CTR (R8, R122): "unspecified, a draw fixed per machine". A free value, log entry 7. -/
opaque cp15Ctr : Word

/-- The free draws of the FSR domain field where R224 writes it UNKNOWN: the n-th draw of the
run is this constant at n (State.draws counts them). A free value, log entry 6. -/
opaque unknownDomain : Nat → BitVec 4

/-- What a byte of physical memory that nothing has written reads as: zero, the convention of
spec/95_test_vectors.md section 0. DESIGN CHOICE, unsafe, log entry 4. -/
def unlistedByte : Byte := 0#8

end Config

end Sys2Proof
end

