-- ==== Sys2Proof/Syntax.lean ====
section
/-! DEFINITION. The instructions: one constructor for each (table, mnemonic) of
spec/opcode_table.json, its rows being the constructor's operand forms (spec/30_encoding.md R303).
Every bit of an encoding that is not fixed by its row is an argument, the should-be fields of R306
(arguments sb…) among them, so that no bit is dropped. -/

namespace Sys2Proof

/-- A 4-bit register field of an ARM instruction, or a full register number (R330, R340). -/
abbrev RegNum := BitVec 4

/-- A 3-bit register field of a Thumb instruction: r0 to r7 (R341). -/
abbrev LowReg := BitVec 3

/-- The 16 values of a condition field (R114). -/
inductive Cond where
  | eq | ne | cs | cc | mi | pl | vs | vc | hi | ls | ge | lt | gt | le | al | nv
  deriving DecidableEq, Repr

/-- Shift types, bits [6:5] of the shifter formats (R311). -/
inductive ShiftKind where
  | lsl | lsr | asr | ror
  deriving DecidableEq, Repr

/-- The shifter operand of addressing mode 1: formats dp_imm_shift, dp_reg_shift and dp_imm (R400). -/
inductive Operand2 where
  /-- Rm shifted by an immediate amount (R402). -/
  | immShift (rm : RegNum) (kind : ShiftKind) (amt : BitVec 5)
  /-- Rm shifted by the low byte of Rs (R403). -/
  | regShift (rm : RegNum) (kind : ShiftKind) (rs : RegNum)
  /-- An 8-bit immediate rotated right by twice rot (R401). -/
  | imm (rot : BitVec 4) (imm8 : BitVec 8)
  deriving DecidableEq, Repr

/-- The offset of addressing mode 2: formats ls_imm and ls_reg (R500). -/
inductive Offset2 where
  | imm (offset12 : BitVec 12)
  | reg (rm : RegNum) (kind : ShiftKind) (amt : BitVec 5)
  deriving DecidableEq, Repr

/-- The offset of addressing mode 3: formats extra_ls_imm and extra_ls_reg (R513). -/
inductive Offset3 where
  | imm (imm8 : BitVec 8)
  | reg (sb : BitVec 4) (rm : RegNum)
  deriving DecidableEq, Repr

/-- The three P/W forms of the plain word and byte transfers (R501); the fourth, P = 0 and W = 1,
makes the T forms, which have constructors of their own. -/
inductive Indexing where
  | offset | preIndexed | postIndexed
  deriving DecidableEq, Repr

/-- An instruction of the ememu core. -/
inductive Instr where
  -- ARM data processing (R410 to R425); sf is the S bit
  | armAnd (c : Cond) (sf : Bool) (rn rd : RegNum) (op2 : Operand2)
  | armEor (c : Cond) (sf : Bool) (rn rd : RegNum) (op2 : Operand2)
  | armSub (c : Cond) (sf : Bool) (rn rd : RegNum) (op2 : Operand2)
  | armRsb (c : Cond) (sf : Bool) (rn rd : RegNum) (op2 : Operand2)
  | armAdd (c : Cond) (sf : Bool) (rn rd : RegNum) (op2 : Operand2)
  | armAdc (c : Cond) (sf : Bool) (rn rd : RegNum) (op2 : Operand2)
  | armSbc (c : Cond) (sf : Bool) (rn rd : RegNum) (op2 : Operand2)
  | armRsc (c : Cond) (sf : Bool) (rn rd : RegNum) (op2 : Operand2)
  | armTst (c : Cond) (rn : RegNum) (sb : BitVec 4) (op2 : Operand2)
  | armTeq (c : Cond) (rn : RegNum) (sb : BitVec 4) (op2 : Operand2)
  | armCmp (c : Cond) (rn : RegNum) (sb : BitVec 4) (op2 : Operand2)
  | armCmn (c : Cond) (rn : RegNum) (sb : BitVec 4) (op2 : Operand2)
  | armOrr (c : Cond) (sf : Bool) (rn rd : RegNum) (op2 : Operand2)
  | armMov (c : Cond) (sf : Bool) (sb : BitVec 4) (rd : RegNum) (op2 : Operand2)
  | armBic (c : Cond) (sf : Bool) (rn rd : RegNum) (op2 : Operand2)
  | armMvn (c : Cond) (sf : Bool) (sb : BitVec 4) (rd : RegNum) (op2 : Operand2)
  -- ARM multiplies (R451 to R456)
  | armMul (c : Cond) (sf : Bool) (rd : RegNum) (sb : BitVec 4) (rs rm : RegNum)
  | armMla (c : Cond) (sf : Bool) (rd rn rs rm : RegNum)
  | armUmull (c : Cond) (sf : Bool) (rdHi rdLo rs rm : RegNum)
  | armUmlal (c : Cond) (sf : Bool) (rdHi rdLo rs rm : RegNum)
  | armSmull (c : Cond) (sf : Bool) (rdHi rdLo rs rm : RegNum)
  | armSmlal (c : Cond) (sf : Bool) (rdHi rdLo rs rm : RegNum)
  -- ARM DSP multiplies and saturating arithmetic (R457 to R468)
  | armSmlaxy (c : Cond) (rd rn rs : RegNum) (y x : Bool) (rm : RegNum)
  | armSmlawy (c : Cond) (rd rn rs : RegNum) (y : Bool) (rm : RegNum)
  | armSmulwy (c : Cond) (rd : RegNum) (sb : BitVec 4) (rs : RegNum) (y : Bool) (rm : RegNum)
  | armSmlalxy (c : Cond) (rdHi rdLo rs : RegNum) (y x : Bool) (rm : RegNum)
  | armSmulxy (c : Cond) (rd : RegNum) (sb : BitVec 4) (rs : RegNum) (y x : Bool) (rm : RegNum)
  | armQadd (c : Cond) (rn rd : RegNum) (sb : BitVec 4) (rm : RegNum)
  | armQsub (c : Cond) (rn rd : RegNum) (sb : BitVec 4) (rm : RegNum)
  | armQdadd (c : Cond) (rn rd : RegNum) (sb : BitVec 4) (rm : RegNum)
  | armQdsub (c : Cond) (rn rd : RegNum) (sb : BitVec 4) (rm : RegNum)
  -- ARM word and byte transfers (R505 to R512); u is the U bit
  | armLdr (c : Cond) (u : Bool) (ix : Indexing) (rn rd : RegNum) (off : Offset2)
  | armStr (c : Cond) (u : Bool) (ix : Indexing) (rn rd : RegNum) (off : Offset2)
  | armLdrb (c : Cond) (u : Bool) (ix : Indexing) (rn rd : RegNum) (off : Offset2)
  | armStrb (c : Cond) (u : Bool) (ix : Indexing) (rn rd : RegNum) (off : Offset2)
  | armLdrt (c : Cond) (u : Bool) (rn rd : RegNum) (off : Offset2)
  | armStrt (c : Cond) (u : Bool) (rn rd : RegNum) (off : Offset2)
  | armLdrbt (c : Cond) (u : Bool) (rn rd : RegNum) (off : Offset2)
  | armStrbt (c : Cond) (u : Bool) (rn rd : RegNum) (off : Offset2)
  -- ARM halfword, signed byte and doubleword transfers (R514 to R519); p, u, w are P, U, W
  | armLdrh (c : Cond) (p u w : Bool) (rn rd : RegNum) (off : Offset3)
  | armStrh (c : Cond) (p u w : Bool) (rn rd : RegNum) (off : Offset3)
  | armLdrsb (c : Cond) (p u w : Bool) (rn rd : RegNum) (off : Offset3)
  | armLdrsh (c : Cond) (p u w : Bool) (rn rd : RegNum) (off : Offset3)
  | armLdrd (c : Cond) (p u w : Bool) (rn rd : RegNum) (off : Offset3)
  | armStrd (c : Cond) (p u w : Bool) (rn rd : RegNum) (off : Offset3)
  -- ARM swap and preload (R520 to R522)
  | armSwp (c : Cond) (rn rd : RegNum) (sb : BitVec 4) (rm : RegNum)
  | armSwpb (c : Cond) (rn rd : RegNum) (sb : BitVec 4) (rm : RegNum)
  | armPldImm (u : Bool) (rn : RegNum) (sb : BitVec 4) (offset12 : BitVec 12)
  | armPldReg (u : Bool) (rn : RegNum) (sb : BitVec 4) (amt : BitVec 5) (kind : ShiftKind) (rm : RegNum)
  -- ARM load and store multiple (R553 to R558); the 15-bit lists are r0 to r14
  | armLdm1 (c : Cond) (p u w : Bool) (rn : RegNum) (list : BitVec 16)
  | armLdm2 (c : Cond) (p u w : Bool) (rn : RegNum) (list : BitVec 15)
  | armLdm3 (c : Cond) (p u w : Bool) (rn : RegNum) (list : BitVec 15)
  | armStm1 (c : Cond) (p u w : Bool) (rn : RegNum) (list : BitVec 16)
  | armStm2 (c : Cond) (p u w : Bool) (rn : RegNum) (list : BitVec 16)
  -- ARM branches (R600 to R604)
  | armB (c : Cond) (imm24 : BitVec 24)
  | armBl (c : Cond) (imm24 : BitVec 24)
  | armBx (c : Cond) (sb : BitVec 12) (rm : RegNum)
  | armBlxImm (h : Bool) (imm24 : BitVec 24)
  | armBlxReg (c : Cond) (sb : BitVec 12) (rm : RegNum)
  -- ARM status register access, CLZ, BKPT, SWI, UNDEFINED (R650 to R657); r is the R bit
  | armMrs (c : Cond) (r : Bool) (sb19 : BitVec 4) (rd : RegNum) (sb11 sb3 : BitVec 4)
  | armMsrReg (c : Cond) (r : Bool) (mask : BitVec 4) (sb : BitVec 8) (rm : RegNum)
  | armMsrImm (c : Cond) (r : Bool) (mask sb rot : BitVec 4) (imm8 : BitVec 8)
  | armClz (c : Cond) (sb19 : BitVec 4) (rd : RegNum) (sb11 : BitVec 4) (rm : RegNum)
  | armBkpt (c : Cond) (immH : BitVec 12) (immL : BitVec 4)
  | armSwi (c : Cond) (imm24 : BitVec 24)
  | armUndefined (w : Word)
  -- coprocessor instructions (R704 to R710); cp is cp_num
  | armMcr (c : Cond) (op1 : BitVec 3) (crn rd cp : BitVec 4) (op2 : BitVec 3) (crm : BitVec 4)
  | armMrc (c : Cond) (op1 : BitVec 3) (crn rd cp : BitVec 4) (op2 : BitVec 3) (crm : BitVec 4)
  | armCdp (c : Cond) (op1 crn crd cp : BitVec 4) (op2 : BitVec 3) (crm : BitVec 4)
  | armLdc (c : Cond) (p u n w : Bool) (rn crd cp : BitVec 4) (offset8 : BitVec 8)
  | armStc (c : Cond) (p u n w : Bool) (rn crd cp : BitVec 4) (offset8 : BitVec 8)
  | armMcrr (c : Cond) (rn rd cp op crm : BitVec 4)
  | armMrrc (c : Cond) (rn rd cp op crm : BitVec 4)
  | armCdp2 (op1 crn crd cp : BitVec 4) (op2 : BitVec 3) (crm : BitVec 4)
  | armLdc2 (p u n w : Bool) (rn crd cp : BitVec 4) (offset8 : BitVec 8)
  | armStc2 (p u n w : Bool) (rn crd cp : BitVec 4) (offset8 : BitVec 8)
  | armMcr2 (op1 : BitVec 3) (crn rd cp : BitVec 4) (op2 : BitVec 3) (crm : BitVec 4)
  | armMrc2 (op1 : BitVec 3) (crn rd cp : BitVec 4) (op2 : BitVec 3) (crm : BitVec 4)
  -- Thumb shifts, additions, immediates (R751 to R761)
  | thumbLslImm (imm5 : BitVec 5) (rm rd : LowReg)
  | thumbLsrImm (imm5 : BitVec 5) (rm rd : LowReg)
  | thumbAsrImm (imm5 : BitVec 5) (rm rd : LowReg)
  | thumbAddReg (rm rn rd : LowReg)
  | thumbSubReg (rm rn rd : LowReg)
  | thumbAddImm3 (imm3 : BitVec 3) (rn rd : LowReg)
  | thumbSubImm3 (imm3 : BitVec 3) (rn rd : LowReg)
  | thumbMovImm (rd : LowReg) (imm8 : BitVec 8)
  | thumbCmpImm (rn : LowReg) (imm8 : BitVec 8)
  | thumbAddImm8 (rd : LowReg) (imm8 : BitVec 8)
  | thumbSubImm8 (rd : LowReg) (imm8 : BitVec 8)
  -- Thumb register ALU operations (R762 to R777)
  | thumbAnd (rm rd : LowReg)
  | thumbEor (rm rd : LowReg)
  | thumbLslReg (rm rd : LowReg)
  | thumbLsrReg (rm rd : LowReg)
  | thumbAsrReg (rm rd : LowReg)
  | thumbAdc (rm rd : LowReg)
  | thumbSbc (rm rd : LowReg)
  | thumbRor (rm rd : LowReg)
  | thumbTst (rm rd : LowReg)
  | thumbNeg (rm rd : LowReg)
  | thumbCmpReg (rm rd : LowReg)
  | thumbCmn (rm rd : LowReg)
  | thumbOrr (rm rd : LowReg)
  | thumbMul (rm rd : LowReg)
  | thumbBic (rm rd : LowReg)
  | thumbMvn (rm rd : LowReg)
  -- Thumb hi-register operations and exchanges (R778 to R780, R823, R824)
  | thumbAddHi (h1 h2 : Bool) (rm rd : LowReg)
  | thumbCmpHi (h1 h2 : Bool) (rm rn : LowReg)
  | thumbMovHi (h1 h2 : Bool) (rm rd : LowReg)
  | thumbBx (h2 : Bool) (rm : LowReg) (sb : BitVec 3)
  | thumbBlxReg (h2 : Bool) (rm : LowReg) (sb : BitVec 3)
  -- Thumb loads and stores (R800 to R816)
  | thumbLdrPc (rd : LowReg) (imm8 : BitVec 8)
  | thumbStrReg (rm rn rd : LowReg)
  | thumbStrhReg (rm rn rd : LowReg)
  | thumbStrbReg (rm rn rd : LowReg)
  | thumbLdrsb (rm rn rd : LowReg)
  | thumbLdrReg (rm rn rd : LowReg)
  | thumbLdrhReg (rm rn rd : LowReg)
  | thumbLdrbReg (rm rn rd : LowReg)
  | thumbLdrsh (rm rn rd : LowReg)
  | thumbStrImm (imm5 : BitVec 5) (rn rd : LowReg)
  | thumbLdrImm (imm5 : BitVec 5) (rn rd : LowReg)
  | thumbStrbImm (imm5 : BitVec 5) (rn rd : LowReg)
  | thumbLdrbImm (imm5 : BitVec 5) (rn rd : LowReg)
  | thumbStrhImm (imm5 : BitVec 5) (rn rd : LowReg)
  | thumbLdrhImm (imm5 : BitVec 5) (rn rd : LowReg)
  | thumbStrSp (rd : LowReg) (imm8 : BitVec 8)
  | thumbLdrSp (rd : LowReg) (imm8 : BitVec 8)
  -- Thumb address generation and stack pointer adjustment (R781 to R784)
  | thumbAddPc (rd : LowReg) (imm8 : BitVec 8)
  | thumbAddSp (rd : LowReg) (imm8 : BitVec 8)
  | thumbAddSpImm7 (imm7 : BitVec 7)
  | thumbSubSpImm7 (imm7 : BitVec 7)
  -- Thumb stack and multiple transfers (R817 to R821); r is the R bit
  | thumbPush (r : Bool) (list : BitVec 8)
  | thumbPop (r : Bool) (list : BitVec 8)
  | thumbStmia (rn : LowReg) (list : BitVec 8)
  | thumbLdmia (rn : LowReg) (list : BitVec 8)
  -- Thumb branches and exception-generating instructions (R820, R822, R825 to R827)
  | thumbBkpt (imm8 : BitVec 8)
  | thumbUndefined (h : Half)
  | thumbSwi (imm8 : BitVec 8)
  | thumbBCond (c : Cond) (imm8 : BitVec 8)
  | thumbB (imm11 : BitVec 11)
  -- 32-bit Thumb (R851 to R858); arguments free… are bits that no field names
  | thumb32Bl (s : Bool) (imm10 : BitVec 10) (j1 j2 : Bool) (imm11 : BitVec 11)
  | thumb32BlxImm (s : Bool) (imm10H : BitVec 10) (j1 j2 : Bool) (imm10L : BitVec 10) (h : Bool)
  | thumb32BT4 (s : Bool) (imm10 : BitVec 10) (j1 j2 : Bool) (imm11 : BitVec 11)
  | thumb32Udf (imm4 : BitVec 4) (imm12 : BitVec 12)
  | thumb32Smc (imm4 : BitVec 4) (free12 : BitVec 12)
  | thumb32Msr (free5 : BitVec 5) (free13 : Bool) (free12 : BitVec 12)
  | thumb32Hint (free4 : BitVec 4) (free13 : Bool) (free12 : BitVec 12)
  | thumb32MiscCtl (free4 : BitVec 4) (free13 : Bool) (free12 : BitVec 12)
  | thumb32Bxj (free4 : BitVec 4) (free13 : Bool) (free12 : BitVec 12)
  | thumb32SubsPcLr (free4 : BitVec 4) (free13 : Bool) (free12 : BitVec 12)
  | thumb32Mrs (free5 : BitVec 5) (free13 : Bool) (free12 : BitVec 12)
  | thumb32BrMiscUndef (opm : BitVec 3) (free4 : BitVec 4) (free13 : Bool) (free12 : BitVec 12)
  | thumb32BT3 (s : Bool) (cond : BitVec 4) (imm6 : BitVec 6) (j1 j2 : Bool) (imm11 : BitVec 11)
  | thumb32DpImm (free11 : BitVec 11) (free15 : BitVec 15)
  | thumb32Space01 (free27 : BitVec 27)
  | thumb32Space11 (free27 : BitVec 27)
  deriving DecidableEq, Repr

end Sys2Proof
end

