-- ==== Sys2Proof/WellFormed.lean ====
section
/-! DEFINITION. Which terms of Instr stand for an encoding (spec/30_encoding.md R310 to R351): a
conditional ARM form has a condition other than 1111, the undefined words are exactly the holes that
R355 and R827 list, a coprocessor transfer is outside the P = U = W = 0 space, and the 32-bit Thumb rows
that a more specific row outranks leave that row's words out. Should-be fields (R306) are free here: a
word that breaks one decodes to its row and stops when it executes. -/

namespace Sys2Proof

/-- The condition field of a conditional ARM instruction and of Thumb B(1); none for the rest (R310, R341). -/
def Instr.condOf : Instr → Option Cond
  | .armAnd c _ _ _ _ => some c
  | .armEor c _ _ _ _ => some c
  | .armSub c _ _ _ _ => some c
  | .armRsb c _ _ _ _ => some c
  | .armAdd c _ _ _ _ => some c
  | .armAdc c _ _ _ _ => some c
  | .armSbc c _ _ _ _ => some c
  | .armRsc c _ _ _ _ => some c
  | .armTst c _ _ _ => some c
  | .armTeq c _ _ _ => some c
  | .armCmp c _ _ _ => some c
  | .armCmn c _ _ _ => some c
  | .armOrr c _ _ _ _ => some c
  | .armMov c _ _ _ _ => some c
  | .armBic c _ _ _ _ => some c
  | .armMvn c _ _ _ _ => some c
  | .armMul c _ _ _ _ _ => some c
  | .armMla c _ _ _ _ _ => some c
  | .armUmull c _ _ _ _ _ => some c
  | .armUmlal c _ _ _ _ _ => some c
  | .armSmull c _ _ _ _ _ => some c
  | .armSmlal c _ _ _ _ _ => some c
  | .armSmlaxy c _ _ _ _ _ _ => some c
  | .armSmlawy c _ _ _ _ _ => some c
  | .armSmulwy c _ _ _ _ _ => some c
  | .armSmlalxy c _ _ _ _ _ _ => some c
  | .armSmulxy c _ _ _ _ _ _ => some c
  | .armQadd c _ _ _ _ => some c
  | .armQsub c _ _ _ _ => some c
  | .armQdadd c _ _ _ _ => some c
  | .armQdsub c _ _ _ _ => some c
  | .armLdr c _ _ _ _ _ => some c
  | .armStr c _ _ _ _ _ => some c
  | .armLdrb c _ _ _ _ _ => some c
  | .armStrb c _ _ _ _ _ => some c
  | .armLdrt c _ _ _ _ => some c
  | .armStrt c _ _ _ _ => some c
  | .armLdrbt c _ _ _ _ => some c
  | .armStrbt c _ _ _ _ => some c
  | .armLdrh c _ _ _ _ _ _ => some c
  | .armStrh c _ _ _ _ _ _ => some c
  | .armLdrsb c _ _ _ _ _ _ => some c
  | .armLdrsh c _ _ _ _ _ _ => some c
  | .armLdrd c _ _ _ _ _ _ => some c
  | .armStrd c _ _ _ _ _ _ => some c
  | .armSwp c _ _ _ _ => some c
  | .armSwpb c _ _ _ _ => some c
  | .armPldImm _ _ _ _ => none
  | .armPldReg _ _ _ _ _ _ => none
  | .armLdm1 c _ _ _ _ _ => some c
  | .armLdm2 c _ _ _ _ _ => some c
  | .armLdm3 c _ _ _ _ _ => some c
  | .armStm1 c _ _ _ _ _ => some c
  | .armStm2 c _ _ _ _ _ => some c
  | .armB c _ => some c
  | .armBl c _ => some c
  | .armBx c _ _ => some c
  | .armBlxImm _ _ => none
  | .armBlxReg c _ _ => some c
  | .armMrs c _ _ _ _ _ => some c
  | .armMsrReg c _ _ _ _ => some c
  | .armMsrImm c _ _ _ _ _ => some c
  | .armClz c _ _ _ _ => some c
  | .armBkpt c _ _ => some c
  | .armSwi c _ => some c
  | .armUndefined _ => none
  | .armMcr c _ _ _ _ _ _ => some c
  | .armMrc c _ _ _ _ _ _ => some c
  | .armCdp c _ _ _ _ _ _ => some c
  | .armLdc c _ _ _ _ _ _ _ _ => some c
  | .armStc c _ _ _ _ _ _ _ _ => some c
  | .armMcrr c _ _ _ _ _ => some c
  | .armMrrc c _ _ _ _ _ => some c
  | .armCdp2 _ _ _ _ _ _ => none
  | .armLdc2 _ _ _ _ _ _ _ _ => none
  | .armStc2 _ _ _ _ _ _ _ _ => none
  | .armMcr2 _ _ _ _ _ _ => none
  | .armMrc2 _ _ _ _ _ _ => none
  | .thumbLslImm _ _ _ => none
  | .thumbLsrImm _ _ _ => none
  | .thumbAsrImm _ _ _ => none
  | .thumbAddReg _ _ _ => none
  | .thumbSubReg _ _ _ => none
  | .thumbAddImm3 _ _ _ => none
  | .thumbSubImm3 _ _ _ => none
  | .thumbMovImm _ _ => none
  | .thumbCmpImm _ _ => none
  | .thumbAddImm8 _ _ => none
  | .thumbSubImm8 _ _ => none
  | .thumbAnd _ _ => none
  | .thumbEor _ _ => none
  | .thumbLslReg _ _ => none
  | .thumbLsrReg _ _ => none
  | .thumbAsrReg _ _ => none
  | .thumbAdc _ _ => none
  | .thumbSbc _ _ => none
  | .thumbRor _ _ => none
  | .thumbTst _ _ => none
  | .thumbNeg _ _ => none
  | .thumbCmpReg _ _ => none
  | .thumbCmn _ _ => none
  | .thumbOrr _ _ => none
  | .thumbMul _ _ => none
  | .thumbBic _ _ => none
  | .thumbMvn _ _ => none
  | .thumbAddHi _ _ _ _ => none
  | .thumbCmpHi _ _ _ _ => none
  | .thumbMovHi _ _ _ _ => none
  | .thumbBx _ _ _ => none
  | .thumbBlxReg _ _ _ => none
  | .thumbLdrPc _ _ => none
  | .thumbStrReg _ _ _ => none
  | .thumbStrhReg _ _ _ => none
  | .thumbStrbReg _ _ _ => none
  | .thumbLdrsb _ _ _ => none
  | .thumbLdrReg _ _ _ => none
  | .thumbLdrhReg _ _ _ => none
  | .thumbLdrbReg _ _ _ => none
  | .thumbLdrsh _ _ _ => none
  | .thumbStrImm _ _ _ => none
  | .thumbLdrImm _ _ _ => none
  | .thumbStrbImm _ _ _ => none
  | .thumbLdrbImm _ _ _ => none
  | .thumbStrhImm _ _ _ => none
  | .thumbLdrhImm _ _ _ => none
  | .thumbStrSp _ _ => none
  | .thumbLdrSp _ _ => none
  | .thumbAddPc _ _ => none
  | .thumbAddSp _ _ => none
  | .thumbAddSpImm7 _ => none
  | .thumbSubSpImm7 _ => none
  | .thumbPush _ _ => none
  | .thumbPop _ _ => none
  | .thumbStmia _ _ => none
  | .thumbLdmia _ _ => none
  | .thumbBkpt _ => none
  | .thumbUndefined _ => none
  | .thumbSwi _ => none
  | .thumbBCond c _ => some c
  | .thumbB _ => none
  | .thumb32Bl _ _ _ _ _ => none
  | .thumb32BlxImm _ _ _ _ _ _ => none
  | .thumb32BT4 _ _ _ _ _ => none
  | .thumb32Udf _ _ => none
  | .thumb32Smc _ _ => none
  | .thumb32Msr _ _ _ => none
  | .thumb32Hint _ _ _ => none
  | .thumb32MiscCtl _ _ _ => none
  | .thumb32Bxj _ _ _ => none
  | .thumb32SubsPcLr _ _ _ => none
  | .thumb32Mrs _ _ _ => none
  | .thumb32BrMiscUndef _ _ _ _ => none
  | .thumb32BT3 _ _ _ _ _ _ => none
  | .thumb32DpImm _ _ => none
  | .thumb32Space01 _ => none
  | .thumb32Space11 _ => none

/-- The holes of the ARM miscellaneous space (R322, R355): w[27:23] = 00010, w[20] = 0 and not
w[7] = w[4] = 1 are the caller's. -/
def miscHole (w : Word) : Bool :=
  let op := w.extractLsb' 21 2
  match w.extractLsb' 4 4 with
  | 0b0001#4 => op == 0b00#2 || op == 0b10#2
  | 0b0011#4 => op != 0b01#2
  | 0b0111#4 => op != 0b01#2
  | 0b0010#4 => true
  | 0b0100#4 => true
  | 0b0110#4 => true
  | _ => false

/-- The conditional ARM words of R355: multiply-space, miscellaneous-space and MSR-immediate holes, the
architecturally undefined space and the 110 words with P = U = W = 0 and N = 0. -/
def undefinedCondWord (w : Word) : Bool :=
  match w.extractLsb' 25 3 with
  | 0b000#3 =>
    if w.getLsbD 7 && w.getLsbD 4 then
      w.extractLsb' 5 2 == 0b00#2
        && (w.extractLsb' 22 3 == 0b001#3 || w.extractLsb' 23 2 == 0b11#2
          || (w.extractLsb' 23 2 == 0b10#2 && w.extractLsb' 20 2 != 0b00#2))
    else w.extractLsb' 23 2 == 0b10#2 && !w.getLsbD 20 && miscHole w
  | 0b001#3 => w.extractLsb' 23 2 == 0b10#2 && !w.getLsbD 20 && !w.getLsbD 21
  | 0b011#3 => w.getLsbD 4
  | 0b110#3 => !w.getLsbD 24 && !w.getLsbD 23 && !w.getLsbD 22 && !w.getLsbD 21
  | _ => false

/-- The cond = 1111 words outside R321: not BLX(1), PLD, LDC2 or STC2, CDP2, MCR2 or MRC2. -/
def undefinedUncondWord (w : Word) : Bool :=
  match w.extractLsb' 25 3 with
  | 0b101#3 => false
  | 0b010#3 => !(w.getLsbD 24 && w.extractLsb' 20 3 == 0b101#3)
  | 0b011#3 => !(w.getLsbD 24 && w.extractLsb' 20 3 == 0b101#3 && !w.getLsbD 4)
  | 0b110#3 => !w.getLsbD 24 && !w.getLsbD 23 && !w.getLsbD 21
  | 0b111#3 => w.getLsbD 24
  | _ => true

/-- The ARM words the UNDEFINED rows take (R355). -/
def undefinedArmWord (w : Word) : Bool :=
  if w.extractLsb' 28 4 = 0xF#4 then undefinedUncondWord w else undefinedCondWord w

/-- The Thumb halfwords the UNDEFINED rows take (R340, R827): B(1) with condition 1110 and the holes of the
1011 space. -/
def undefinedThumbHalf (h : Half) : Bool :=
  h.extractLsb' 8 8 == 0xDE#8
    || (h.extractLsb' 12 4 == 0b1011#4
      && (h.extractLsb' 8 4 == 0b0001#4 || h.extractLsb' 9 3 == 0b001#3 || h.extractLsb' 9 3 == 0b011#3
        || h.extractLsb' 9 3 == 0b100#3 || h.extractLsb' 9 3 == 0b101#3 || h.extractLsb' 8 4 == 0b1111#4))

/-- The conditional forms' check: an ARM condition is never 1111 (R310), a Thumb B(1) condition is 0000 to
1101 (R340). -/
def Instr.condOk (i : Instr) : Bool :=
  match i with
  | .thumbBCond c _ => c != .al && c != .nv
  | _ => i.condOf != some .nv

/-- The checks of the forms that have one of their own. -/
def Instr.formOk : Instr → Bool
  | .armAnd _ _ _ _ _ => true
  | .armEor _ _ _ _ _ => true
  | .armSub _ _ _ _ _ => true
  | .armRsb _ _ _ _ _ => true
  | .armAdd _ _ _ _ _ => true
  | .armAdc _ _ _ _ _ => true
  | .armSbc _ _ _ _ _ => true
  | .armRsc _ _ _ _ _ => true
  | .armTst _ _ _ _ => true
  | .armTeq _ _ _ _ => true
  | .armCmp _ _ _ _ => true
  | .armCmn _ _ _ _ => true
  | .armOrr _ _ _ _ _ => true
  | .armMov _ _ _ _ _ => true
  | .armBic _ _ _ _ _ => true
  | .armMvn _ _ _ _ _ => true
  | .armMul _ _ _ _ _ _ => true
  | .armMla _ _ _ _ _ _ => true
  | .armUmull _ _ _ _ _ _ => true
  | .armUmlal _ _ _ _ _ _ => true
  | .armSmull _ _ _ _ _ _ => true
  | .armSmlal _ _ _ _ _ _ => true
  | .armSmlaxy _ _ _ _ _ _ _ => true
  | .armSmlawy _ _ _ _ _ _ => true
  | .armSmulwy _ _ _ _ _ _ => true
  | .armSmlalxy _ _ _ _ _ _ _ => true
  | .armSmulxy _ _ _ _ _ _ _ => true
  | .armQadd _ _ _ _ _ => true
  | .armQsub _ _ _ _ _ => true
  | .armQdadd _ _ _ _ _ => true
  | .armQdsub _ _ _ _ _ => true
  | .armLdr _ _ _ _ _ _ => true
  | .armStr _ _ _ _ _ _ => true
  | .armLdrb _ _ _ _ _ _ => true
  | .armStrb _ _ _ _ _ _ => true
  | .armLdrt _ _ _ _ _ => true
  | .armStrt _ _ _ _ _ => true
  | .armLdrbt _ _ _ _ _ => true
  | .armStrbt _ _ _ _ _ => true
  | .armLdrh _ _ _ _ _ _ _ => true
  | .armStrh _ _ _ _ _ _ _ => true
  | .armLdrsb _ _ _ _ _ _ _ => true
  | .armLdrsh _ _ _ _ _ _ _ => true
  | .armLdrd _ _ _ _ _ _ _ => true
  | .armStrd _ _ _ _ _ _ _ => true
  | .armSwp _ _ _ _ _ => true
  | .armSwpb _ _ _ _ _ => true
  | .armPldImm _ _ _ _ => true
  | .armPldReg _ _ _ _ _ _ => true
  | .armLdm1 _ _ _ _ _ _ => true
  | .armLdm2 _ _ _ _ _ _ => true
  | .armLdm3 _ _ _ _ _ _ => true
  | .armStm1 _ _ _ _ _ _ => true
  | .armStm2 _ _ _ _ _ _ => true
  | .armB _ _ => true
  | .armBl _ _ => true
  | .armBx _ _ _ => true
  | .armBlxImm _ _ => true
  | .armBlxReg _ _ _ => true
  | .armMrs _ _ _ _ _ _ => true
  | .armMsrReg _ _ _ _ _ => true
  | .armMsrImm _ _ _ _ _ _ => true
  | .armClz _ _ _ _ _ => true
  | .armBkpt _ _ _ => true
  | .armSwi _ _ => true
  | .armUndefined w => undefinedArmWord w
  | .armMcr _ _ _ _ _ _ _ => true
  | .armMrc _ _ _ _ _ _ _ => true
  | .armCdp _ _ _ _ _ _ _ => true
  | .armLdc _ p u _ w _ _ _ _ => p || u || w
  | .armStc _ p u _ w _ _ _ _ => p || u || w
  | .armMcrr _ _ _ _ _ _ => true
  | .armMrrc _ _ _ _ _ _ => true
  | .armCdp2 _ _ _ _ _ _ => true
  | .armLdc2 p u _ w _ _ _ _ => p || u || w
  | .armStc2 p u _ w _ _ _ _ => p || u || w
  | .armMcr2 _ _ _ _ _ _ => true
  | .armMrc2 _ _ _ _ _ _ => true
  | .thumbLslImm _ _ _ => true
  | .thumbLsrImm _ _ _ => true
  | .thumbAsrImm _ _ _ => true
  | .thumbAddReg _ _ _ => true
  | .thumbSubReg _ _ _ => true
  | .thumbAddImm3 _ _ _ => true
  | .thumbSubImm3 _ _ _ => true
  | .thumbMovImm _ _ => true
  | .thumbCmpImm _ _ => true
  | .thumbAddImm8 _ _ => true
  | .thumbSubImm8 _ _ => true
  | .thumbAnd _ _ => true
  | .thumbEor _ _ => true
  | .thumbLslReg _ _ => true
  | .thumbLsrReg _ _ => true
  | .thumbAsrReg _ _ => true
  | .thumbAdc _ _ => true
  | .thumbSbc _ _ => true
  | .thumbRor _ _ => true
  | .thumbTst _ _ => true
  | .thumbNeg _ _ => true
  | .thumbCmpReg _ _ => true
  | .thumbCmn _ _ => true
  | .thumbOrr _ _ => true
  | .thumbMul _ _ => true
  | .thumbBic _ _ => true
  | .thumbMvn _ _ => true
  | .thumbAddHi _ _ _ _ => true
  | .thumbCmpHi _ _ _ _ => true
  | .thumbMovHi _ _ _ _ => true
  | .thumbBx _ _ _ => true
  | .thumbBlxReg _ _ _ => true
  | .thumbLdrPc _ _ => true
  | .thumbStrReg _ _ _ => true
  | .thumbStrhReg _ _ _ => true
  | .thumbStrbReg _ _ _ => true
  | .thumbLdrsb _ _ _ => true
  | .thumbLdrReg _ _ _ => true
  | .thumbLdrhReg _ _ _ => true
  | .thumbLdrbReg _ _ _ => true
  | .thumbLdrsh _ _ _ => true
  | .thumbStrImm _ _ _ => true
  | .thumbLdrImm _ _ _ => true
  | .thumbStrbImm _ _ _ => true
  | .thumbLdrbImm _ _ _ => true
  | .thumbStrhImm _ _ _ => true
  | .thumbLdrhImm _ _ _ => true
  | .thumbStrSp _ _ => true
  | .thumbLdrSp _ _ => true
  | .thumbAddPc _ _ => true
  | .thumbAddSp _ _ => true
  | .thumbAddSpImm7 _ => true
  | .thumbSubSpImm7 _ => true
  | .thumbPush _ _ => true
  | .thumbPop _ _ => true
  | .thumbStmia _ _ => true
  | .thumbLdmia _ _ => true
  | .thumbBkpt _ => true
  | .thumbUndefined h => undefinedThumbHalf h
  | .thumbSwi _ => true
  | .thumbBCond _ _ => true
  | .thumbB _ => true
  | .thumb32Bl _ _ _ _ _ => true
  | .thumb32BlxImm _ _ _ _ _ _ => true
  | .thumb32BT4 _ _ _ _ _ => true
  | .thumb32Udf _ _ => true
  | .thumb32Smc _ _ => true
  | .thumb32Msr _ _ _ => true
  | .thumb32Hint _ _ _ => true
  | .thumb32MiscCtl _ _ _ => true
  | .thumb32Bxj _ _ _ => true
  | .thumb32SubsPcLr _ _ _ => true
  | .thumb32Mrs _ _ _ => true
  | .thumb32BrMiscUndef opm _ _ _ => opm != 0b111#3
  | .thumb32BT3 _ cond _ _ _ _ => cond.extractLsb' 1 3 != 0b111#3
  | .thumb32DpImm _ _ => true
  | .thumb32Space01 _ => true
  | .thumb32Space11 _ => true

/-- A term that stands for an encoding. -/
def Instr.wellFormed (i : Instr) : Bool := i.condOk && i.formOk

end Sys2Proof
end

