-- ==== Sys2Proof/Decode.lean ====
section
/-! DEFINITION. The decoder (spec/30_encoding.md R301 to R351: the decision trees that the priorities of
spec/opcode_table.json implement), total on any bytes and refusing by name what is no instruction, and after
it the encoder, written from the same tables. -/

namespace Sys2Proof

/-- The instruction words as fetched (R300): one ARM word, one Thumb halfword, or the two halfwords of a
32-bit Thumb instruction as hw1 << 16 | hw2. -/
inductive Code where
  | arm (w : Word)
  | thumb (h : Half)
  | thumb32 (w : Word)
  deriving DecidableEq, Repr

/-- Why bytes are no instruction. -/
inductive DecodeError where
  /-- Fewer bytes than the instruction's length (R302). -/
  | truncated
  /-- A 32-bit Thumb word whose first halfword does not pass the length test of R300; fetch makes none. -/
  | notThumb32
  deriving DecidableEq, Repr

/-- The byte length of an instruction (R302), the len of the end-of-step advance. -/
def Code.len : Code → Word
  | .arm _ => 4#32
  | .thumb _ => 2#32
  | .thumb32 _ => 4#32

/-! ## Fields -/

/-- The condition that a 4-bit field names (R114). -/
def Cond.ofBits (b : BitVec 4) : Cond :=
  match b with
  | 0b0000#4 => .eq
  | 0b0001#4 => .ne
  | 0b0010#4 => .cs
  | 0b0011#4 => .cc
  | 0b0100#4 => .mi
  | 0b0101#4 => .pl
  | 0b0110#4 => .vs
  | 0b0111#4 => .vc
  | 0b1000#4 => .hi
  | 0b1001#4 => .ls
  | 0b1010#4 => .ge
  | 0b1011#4 => .lt
  | 0b1100#4 => .gt
  | 0b1101#4 => .le
  | 0b1110#4 => .al
  | _ => .nv

/-- The 4-bit field of a condition (R114). -/
def Cond.bits : Cond → BitVec 4
  | .eq => 0b0000#4
  | .ne => 0b0001#4
  | .cs => 0b0010#4
  | .cc => 0b0011#4
  | .mi => 0b0100#4
  | .pl => 0b0101#4
  | .vs => 0b0110#4
  | .vc => 0b0111#4
  | .hi => 0b1000#4
  | .ls => 0b1001#4
  | .ge => 0b1010#4
  | .lt => 0b1011#4
  | .gt => 0b1100#4
  | .le => 0b1101#4
  | .al => 0b1110#4
  | .nv => 0b1111#4

/-- The shift type that bits [6:5] name (R311). -/
def ShiftKind.ofBits (b : BitVec 2) : ShiftKind :=
  match b with
  | 0b00#2 => .lsl
  | 0b01#2 => .lsr
  | 0b10#2 => .asr
  | _ => .ror

/-- The 2-bit field of a shift type (R311). -/
def ShiftKind.bits : ShiftKind → BitVec 2
  | .lsl => 0b00#2
  | .lsr => 0b01#2
  | .asr => 0b10#2
  | .ror => 0b11#2

/-- The immediate-shift shifter operand of a word (format dp_imm_shift, R311). -/
def decodeImmShift (w : Word) : Operand2 :=
  .immShift (w.extractLsb' 0 4) (.ofBits (w.extractLsb' 5 2)) (w.extractLsb' 7 5)

/-- The register-shift shifter operand of a word (format dp_reg_shift, R311). -/
def decodeRegShift (w : Word) : Operand2 :=
  .regShift (w.extractLsb' 0 4) (.ofBits (w.extractLsb' 5 2)) (w.extractLsb' 8 4)

/-- The immediate shifter operand of a word (format dp_imm, R311). -/
def decodeImm (w : Word) : Operand2 := .imm (w.extractLsb' 8 4) (w.extractLsb' 0 8)

/-- The offset of a mode-2 transfer (R311, R330): bit 25 selects the register form. -/
def decodeOffset2 (w : Word) : Offset2 :=
  if w.getLsbD 25 then
    .reg (w.extractLsb' 0 4) (.ofBits (w.extractLsb' 5 2)) (w.extractLsb' 7 5)
  else .imm (w.extractLsb' 0 12)

/-- The offset of a mode-3 transfer (R311, R330): bit 22 selects the immediate form. -/
def decodeOffset3 (w : Word) : Offset3 :=
  if w.getLsbD 22 then .imm (w.extractLsb' 8 4 ++ w.extractLsb' 0 4)
  else .reg (w.extractLsb' 8 4) (w.extractLsb' 0 4)

/-! ## The ARM decision tree (R320 to R322) -/

/-- The sixteen data-processing operations by opcode w[24:21] (R311); the four tests reach here with S = 1
only (R320). -/
def decodeDp (c : Cond) (w : Word) (op2 : Operand2) : Instr :=
  let sf := w.getLsbD 20
  let rn := w.extractLsb' 16 4
  let rd := w.extractLsb' 12 4
  match w.extractLsb' 21 4 with
  | 0b0000#4 => .armAnd c sf rn rd op2
  | 0b0001#4 => .armEor c sf rn rd op2
  | 0b0010#4 => .armSub c sf rn rd op2
  | 0b0011#4 => .armRsb c sf rn rd op2
  | 0b0100#4 => .armAdd c sf rn rd op2
  | 0b0101#4 => .armAdc c sf rn rd op2
  | 0b0110#4 => .armSbc c sf rn rd op2
  | 0b0111#4 => .armRsc c sf rn rd op2
  | 0b1000#4 => .armTst c rn rd op2
  | 0b1001#4 => .armTeq c rn rd op2
  | 0b1010#4 => .armCmp c rn rd op2
  | 0b1011#4 => .armCmn c rn rd op2
  | 0b1100#4 => .armOrr c sf rn rd op2
  | 0b1101#4 => .armMov c sf rn rd op2
  | 0b1110#4 => .armBic c sf rn rd op2
  | _ => .armMvn c sf rn rd op2

/-- The multiply and swap space: w[27:25] = 000, w[7:4] = 1001 (R320). -/
def decodeMulSwap (c : Cond) (w : Word) : Instr :=
  let f19 := w.extractLsb' 16 4
  let f15 := w.extractLsb' 12 4
  let f11 := w.extractLsb' 8 4
  let rm := w.extractLsb' 0 4
  let sf := w.getLsbD 20
  match w.extractLsb' 21 4 with
  | 0b0000#4 => .armMul c sf f19 f15 f11 rm
  | 0b0001#4 => .armMla c sf f19 f15 f11 rm
  | 0b0100#4 => .armUmull c sf f19 f15 f11 rm
  | 0b0101#4 => .armUmlal c sf f19 f15 f11 rm
  | 0b0110#4 => .armSmull c sf f19 f15 f11 rm
  | 0b0111#4 => .armSmlal c sf f19 f15 f11 rm
  | 0b1000#4 => if sf then .armUndefined w else .armSwp c f19 f15 f11 rm
  | 0b1010#4 => if sf then .armUndefined w else .armSwpb c f19 f15 f11 rm
  | _ => .armUndefined w

/-- The extra load/store space: w[27:25] = 000, w[7] = w[4] = 1, w[6:5] not 00 (R320). -/
def decodeExtra (c : Cond) (w : Word) : Instr :=
  let p := w.getLsbD 24
  let u := w.getLsbD 23
  let wb := w.getLsbD 21
  let rn := w.extractLsb' 16 4
  let rd := w.extractLsb' 12 4
  let off := decodeOffset3 w
  match w.extractLsb' 5 2 with
  | 0b01#2 => if w.getLsbD 20 then .armLdrh c p u wb rn rd off else .armStrh c p u wb rn rd off
  | 0b10#2 => if w.getLsbD 20 then .armLdrsb c p u wb rn rd off else .armLdrd c p u wb rn rd off
  | _ => if w.getLsbD 20 then .armLdrsh c p u wb rn rd off else .armStrd c p u wb rn rd off

/-- The miscellaneous space: w[27:23] = 00010, w[20] = 0, not w[7] = w[4] = 1 (R322). -/
def decodeMisc (c : Cond) (w : Word) : Instr :=
  let f19 := w.extractLsb' 16 4
  let f15 := w.extractLsb' 12 4
  let f11 := w.extractLsb' 8 4
  let rm := w.extractLsb' 0 4
  let op := w.extractLsb' 21 2
  if w.getLsbD 7 then
    match op with
    | 0b00#2 => .armSmlaxy c f19 f15 f11 (w.getLsbD 6) (w.getLsbD 5) rm
    | 0b01#2 =>
      if w.getLsbD 5 then .armSmulwy c f19 f15 f11 (w.getLsbD 6) rm
      else .armSmlawy c f19 f15 f11 (w.getLsbD 6) rm
    | 0b10#2 => .armSmlalxy c f19 f15 f11 (w.getLsbD 6) (w.getLsbD 5) rm
    | _ => .armSmulxy c f19 f15 f11 (w.getLsbD 6) (w.getLsbD 5) rm
  else
    match w.extractLsb' 4 3 with
    | 0b000#3 =>
      if w.getLsbD 21 then .armMsrReg c (w.getLsbD 22) f19 (w.extractLsb' 8 8) rm
      else .armMrs c (w.getLsbD 22) f19 f15 f11 rm
    | 0b001#3 =>
      match op with
      | 0b01#2 => .armBx c (w.extractLsb' 8 12) rm
      | 0b11#2 => .armClz c f19 f15 f11 rm
      | _ => .armUndefined w
    | 0b011#3 => if op = 0b01#2 then .armBlxReg c (w.extractLsb' 8 12) rm else .armUndefined w
    | 0b101#3 =>
      match op with
      | 0b00#2 => .armQadd c f19 f15 f11 rm
      | 0b01#2 => .armQsub c f19 f15 f11 rm
      | 0b10#2 => .armQdadd c f19 f15 f11 rm
      | _ => .armQdsub c f19 f15 f11 rm
    | 0b111#3 => if op = 0b01#2 then .armBkpt c (w.extractLsb' 8 12) rm else .armUndefined w
    | _ => .armUndefined w

/-- Word and byte transfers: w[27:26] = 01 and not the undefined space (R320); P = 0 with W = 1 makes the T
forms. -/
def decodeSingle (c : Cond) (w : Word) : Instr :=
  let u := w.getLsbD 23
  let b := w.getLsbD 22
  let l := w.getLsbD 20
  let rn := w.extractLsb' 16 4
  let rd := w.extractLsb' 12 4
  let off := decodeOffset2 w
  if !w.getLsbD 24 && w.getLsbD 21 then
    if l then (if b then .armLdrbt c u rn rd off else .armLdrt c u rn rd off)
    else (if b then .armStrbt c u rn rd off else .armStrt c u rn rd off)
  else
    let ix := if w.getLsbD 24 then (if w.getLsbD 21 then .preIndexed else .offset) else .postIndexed
    if l then (if b then .armLdrb c u ix rn rd off else .armLdr c u ix rn rd off)
    else (if b then .armStrb c u ix rn rd off else .armStr c u ix rn rd off)

/-- Load and store multiple: w[27:25] = 100 (R320). -/
def decodeBlock (c : Cond) (w : Word) : Instr :=
  let p := w.getLsbD 24
  let u := w.getLsbD 23
  let wb := w.getLsbD 21
  let rn := w.extractLsb' 16 4
  if w.getLsbD 20 then
    if w.getLsbD 22 then
      if w.getLsbD 15 then .armLdm3 c p u wb rn (w.extractLsb' 0 15)
      else .armLdm2 c p u wb rn (w.extractLsb' 0 15)
    else .armLdm1 c p u wb rn (w.extractLsb' 0 16)
  else if w.getLsbD 22 then .armStm2 c p u wb rn (w.extractLsb' 0 16)
  else .armStm1 c p u wb rn (w.extractLsb' 0 16)

/-- Coprocessor loads, stores and two-register transfers: w[27:25] = 110 (R320). -/
def decodeCopLs (c : Cond) (w : Word) : Instr :=
  let p := w.getLsbD 24
  let u := w.getLsbD 23
  let n := w.getLsbD 22
  let wb := w.getLsbD 21
  let f19 := w.extractLsb' 16 4
  let f15 := w.extractLsb' 12 4
  let cp := w.extractLsb' 8 4
  if !p && !u && !wb then
    if n then
      if w.getLsbD 20 then .armMrrc c f19 f15 cp (w.extractLsb' 4 4) (w.extractLsb' 0 4)
      else .armMcrr c f19 f15 cp (w.extractLsb' 4 4) (w.extractLsb' 0 4)
    else .armUndefined w
  else if w.getLsbD 20 then .armLdc c p u n wb f19 f15 cp (w.extractLsb' 0 8)
  else .armStc c p u n wb f19 f15 cp (w.extractLsb' 0 8)

/-- Software interrupt, coprocessor data operations and register transfers: w[27:25] = 111 (R320). -/
def decodeCopSwi (c : Cond) (w : Word) : Instr :=
  let crn := w.extractLsb' 16 4
  let rd := w.extractLsb' 12 4
  let cp := w.extractLsb' 8 4
  let op2 := w.extractLsb' 5 3
  let crm := w.extractLsb' 0 4
  if w.getLsbD 24 then .armSwi c (w.extractLsb' 0 24)
  else if w.getLsbD 4 then
    if w.getLsbD 20 then .armMrc c (w.extractLsb' 21 3) crn rd cp op2 crm
    else .armMcr c (w.extractLsb' 21 3) crn rd cp op2 crm
  else .armCdp c (w.extractLsb' 20 4) crn rd cp op2 crm

/-- The conditional ARM space: cond not 1111 (R320). -/
def decodeCond (c : Cond) (w : Word) : Instr :=
  match w.extractLsb' 25 3 with
  | 0b000#3 =>
    if w.getLsbD 7 && w.getLsbD 4 then
      if w.extractLsb' 5 2 = 0b00#2 then decodeMulSwap c w else decodeExtra c w
    else if w.extractLsb' 23 2 == 0b10#2 && !w.getLsbD 20 then decodeMisc c w
    else if w.getLsbD 4 then decodeDp c w (decodeRegShift w)
    else decodeDp c w (decodeImmShift w)
  | 0b001#3 =>
    if w.extractLsb' 23 2 == 0b10#2 && !w.getLsbD 20 then
      if w.getLsbD 21 then
        .armMsrImm c (w.getLsbD 22) (w.extractLsb' 16 4) (w.extractLsb' 12 4) (w.extractLsb' 8 4)
          (w.extractLsb' 0 8)
      else .armUndefined w
    else decodeDp c w (decodeImm w)
  | 0b010#3 => decodeSingle c w
  | 0b011#3 => if w.getLsbD 4 then .armUndefined w else decodeSingle c w
  | 0b100#3 => decodeBlock c w
  | 0b101#3 =>
    if w.getLsbD 24 then .armBl c (w.extractLsb' 0 24) else .armB c (w.extractLsb' 0 24)
  | 0b110#3 => decodeCopLs c w
  | _ => decodeCopSwi c w

/-- The unconditional ARM space: cond = 1111 (R321). -/
def decodeUncond (w : Word) : Instr :=
  let u := w.getLsbD 23
  let f19 := w.extractLsb' 16 4
  let f15 := w.extractLsb' 12 4
  let cp := w.extractLsb' 8 4
  let op2 := w.extractLsb' 5 3
  let crm := w.extractLsb' 0 4
  match w.extractLsb' 25 3 with
  | 0b101#3 => .armBlxImm (w.getLsbD 24) (w.extractLsb' 0 24)
  | 0b010#3 =>
    if w.getLsbD 24 && w.extractLsb' 20 3 == 0b101#3 then .armPldImm u f19 f15 (w.extractLsb' 0 12)
    else .armUndefined w
  | 0b011#3 =>
    if w.getLsbD 24 && w.extractLsb' 20 3 == 0b101#3 && !w.getLsbD 4 then
      .armPldReg u f19 f15 (w.extractLsb' 7 5) (.ofBits (w.extractLsb' 5 2)) crm
    else .armUndefined w
  | 0b110#3 =>
    let p := w.getLsbD 24
    let n := w.getLsbD 22
    let wb := w.getLsbD 21
    if !p && !u && !wb then .armUndefined w
    else if w.getLsbD 20 then .armLdc2 p u n wb f19 f15 cp (w.extractLsb' 0 8)
    else .armStc2 p u n wb f19 f15 cp (w.extractLsb' 0 8)
  | 0b111#3 =>
    if w.getLsbD 24 then .armUndefined w
    else if w.getLsbD 4 then
      if w.getLsbD 20 then .armMrc2 (w.extractLsb' 21 3) f19 f15 cp op2 crm
      else .armMcr2 (w.extractLsb' 21 3) f19 f15 cp op2 crm
    else .armCdp2 (w.extractLsb' 20 4) f19 f15 cp op2 crm
  | _ => .armUndefined w

/-- The ARM decoder: every word is some instruction (R304, R320). -/
def decodeArm (w : Word) : Instr :=
  if w.extractLsb' 28 4 = 0xF#4 then decodeUncond w
  else decodeCond (.ofBits (w.extractLsb' 28 4)) w

/-! ## The Thumb decision trees (R340, R350, R351) -/

/-- The register ALU operations 010000 by op h[9:6] (R340). -/
def decodeThumbAlu (h : Half) : Instr :=
  let rm := h.extractLsb' 3 3
  let rd := h.extractLsb' 0 3
  match h.extractLsb' 6 4 with
  | 0b0000#4 => .thumbAnd rm rd
  | 0b0001#4 => .thumbEor rm rd
  | 0b0010#4 => .thumbLslReg rm rd
  | 0b0011#4 => .thumbLsrReg rm rd
  | 0b0100#4 => .thumbAsrReg rm rd
  | 0b0101#4 => .thumbAdc rm rd
  | 0b0110#4 => .thumbSbc rm rd
  | 0b0111#4 => .thumbRor rm rd
  | 0b1000#4 => .thumbTst rm rd
  | 0b1001#4 => .thumbNeg rm rd
  | 0b1010#4 => .thumbCmpReg rm rd
  | 0b1011#4 => .thumbCmn rm rd
  | 0b1100#4 => .thumbOrr rm rd
  | 0b1101#4 => .thumbMul rm rd
  | 0b1110#4 => .thumbBic rm rd
  | _ => .thumbMvn rm rd

/-- The special data and branch exchange operations 010001 by h[9:8] (R340). -/
def decodeThumbHi (h : Half) : Instr :=
  let h1 := h.getLsbD 7
  let h2 := h.getLsbD 6
  let rm := h.extractLsb' 3 3
  let rd := h.extractLsb' 0 3
  match h.extractLsb' 8 2 with
  | 0b00#2 => .thumbAddHi h1 h2 rm rd
  | 0b01#2 => .thumbCmpHi h1 h2 rm rd
  | 0b10#2 => .thumbMovHi h1 h2 rm rd
  | _ => if h1 then .thumbBlxReg h2 rm rd else .thumbBx h2 rm rd

/-- Loads and stores with a register offset 0101 by h[11:9] (R340). -/
def decodeThumbLsReg (h : Half) : Instr :=
  let rm := h.extractLsb' 6 3
  let rn := h.extractLsb' 3 3
  let rd := h.extractLsb' 0 3
  match h.extractLsb' 9 3 with
  | 0b000#3 => .thumbStrReg rm rn rd
  | 0b001#3 => .thumbStrhReg rm rn rd
  | 0b010#3 => .thumbStrbReg rm rn rd
  | 0b011#3 => .thumbLdrsb rm rn rd
  | 0b100#3 => .thumbLdrReg rm rn rd
  | 0b101#3 => .thumbLdrhReg rm rn rd
  | 0b110#3 => .thumbLdrbReg rm rn rd
  | _ => .thumbLdrsh rm rn rd

/-- The miscellaneous space 1011 by h[11:8] (R340). -/
def decodeThumbMisc (h : Half) : Instr :=
  match h.extractLsb' 8 4 with
  | 0b0000#4 =>
    if h.getLsbD 7 then .thumbSubSpImm7 (h.extractLsb' 0 7) else .thumbAddSpImm7 (h.extractLsb' 0 7)
  | 0b0100#4 => .thumbPush false (h.extractLsb' 0 8)
  | 0b0101#4 => .thumbPush true (h.extractLsb' 0 8)
  | 0b1100#4 => .thumbPop false (h.extractLsb' 0 8)
  | 0b1101#4 => .thumbPop true (h.extractLsb' 0 8)
  | 0b1110#4 => .thumbBkpt (h.extractLsb' 0 8)
  | _ => .thumbUndefined h

/-- The conditional branch space 1101 by h[11:8] (R340, R820, R825, R827). -/
def decodeThumbBCond (h : Half) : Instr :=
  match h.extractLsb' 8 4 with
  | 0b1110#4 => .thumbUndefined h
  | 0b1111#4 => .thumbSwi (h.extractLsb' 0 8)
  | b => .thumbBCond (.ofBits b) (h.extractLsb' 0 8)

/-- The 16-bit Thumb decoder by h[15:11] (R340). The prefixes 11101, 11110 and 11111 never reach it (R300);
the catch-all row takes them, as the table's does. -/
def decodeThumb (h : Half) : Instr :=
  let r8 := h.extractLsb' 8 3
  let imm8 := h.extractLsb' 0 8
  let imm5 := h.extractLsb' 6 5
  let f8 := h.extractLsb' 6 3
  let f5 := h.extractLsb' 3 3
  let f2 := h.extractLsb' 0 3
  match h.extractLsb' 11 5 with
  | 0b00000#5 => .thumbLslImm imm5 f5 f2
  | 0b00001#5 => .thumbLsrImm imm5 f5 f2
  | 0b00010#5 => .thumbAsrImm imm5 f5 f2
  | 0b00011#5 =>
    match h.extractLsb' 9 2 with
    | 0b00#2 => .thumbAddReg f8 f5 f2
    | 0b01#2 => .thumbSubReg f8 f5 f2
    | 0b10#2 => .thumbAddImm3 f8 f5 f2
    | _ => .thumbSubImm3 f8 f5 f2
  | 0b00100#5 => .thumbMovImm r8 imm8
  | 0b00101#5 => .thumbCmpImm r8 imm8
  | 0b00110#5 => .thumbAddImm8 r8 imm8
  | 0b00111#5 => .thumbSubImm8 r8 imm8
  | 0b01000#5 => if h.getLsbD 10 then decodeThumbHi h else decodeThumbAlu h
  | 0b01001#5 => .thumbLdrPc r8 imm8
  | 0b01010#5 => decodeThumbLsReg h
  | 0b01011#5 => decodeThumbLsReg h
  | 0b01100#5 => .thumbStrImm imm5 f5 f2
  | 0b01101#5 => .thumbLdrImm imm5 f5 f2
  | 0b01110#5 => .thumbStrbImm imm5 f5 f2
  | 0b01111#5 => .thumbLdrbImm imm5 f5 f2
  | 0b10000#5 => .thumbStrhImm imm5 f5 f2
  | 0b10001#5 => .thumbLdrhImm imm5 f5 f2
  | 0b10010#5 => .thumbStrSp r8 imm8
  | 0b10011#5 => .thumbLdrSp r8 imm8
  | 0b10100#5 => .thumbAddPc r8 imm8
  | 0b10101#5 => .thumbAddSp r8 imm8
  | 0b10110#5 => decodeThumbMisc h
  | 0b10111#5 => decodeThumbMisc h
  | 0b11000#5 => .thumbStmia r8 imm8
  | 0b11001#5 => .thumbLdmia r8 imm8
  | 0b11010#5 => decodeThumbBCond h
  | 0b11011#5 => decodeThumbBCond h
  | 0b11100#5 => .thumbB (h.extractLsb' 0 11)
  | _ => .thumbUndefined h

/-- Branches and miscellaneous control with op1' = 0x0 (R351): opm is w[26:20]. -/
def decodeThumb32Misc (w : Word) : Instr :=
  let free13 := w.getLsbD 13
  let free12 := w.extractLsb' 0 12
  let low4 := w.extractLsb' 16 4
  if w.extractLsb' 23 3 = 0b111#3 then
    if w.getLsbD 26 then
      if w.extractLsb' 20 3 = 0b111#3 then
        if free13 then .thumb32Udf low4 free12 else .thumb32Smc low4 free12
      else .thumb32BrMiscUndef (w.extractLsb' 20 3) low4 free13 free12
    else
      match w.extractLsb' 21 2 with
      | 0b00#2 => .thumb32Msr (w.extractLsb' 16 5) free13 free12
      | 0b01#2 =>
        if w.getLsbD 20 then .thumb32MiscCtl low4 free13 free12 else .thumb32Hint low4 free13 free12
      | 0b10#2 =>
        if w.getLsbD 20 then .thumb32SubsPcLr low4 free13 free12 else .thumb32Bxj low4 free13 free12
      | _ => .thumb32Mrs (w.extractLsb' 16 5) free13 free12
  else
    .thumb32BT3 (w.getLsbD 26) (w.extractLsb' 22 4) (w.extractLsb' 16 6) (w.getLsbD 13) (w.getLsbD 11)
      (w.extractLsb' 0 11)

/-- The 32-bit Thumb decoder by op1 = hw1[12:11] and op = hw2[15] (R350, R351). -/
def decodeThumb32 (w : Word) : Except DecodeError Instr :=
  let s := w.getLsbD 26
  let imm10 := w.extractLsb' 16 10
  let j1 := w.getLsbD 13
  let j2 := w.getLsbD 11
  match w.extractLsb' 27 5 with
  | 0b11101#5 => .ok (.thumb32Space01 (w.extractLsb' 0 27))
  | 0b11110#5 =>
    .ok (
      if w.getLsbD 15 then
        if w.getLsbD 14 then
          if w.getLsbD 12 then .thumb32Bl s imm10 j1 j2 (w.extractLsb' 0 11)
          else .thumb32BlxImm s imm10 j1 j2 (w.extractLsb' 1 10) (w.getLsbD 0)
        else if w.getLsbD 12 then .thumb32BT4 s imm10 j1 j2 (w.extractLsb' 0 11)
        else decodeThumb32Misc w
      else .thumb32DpImm (w.extractLsb' 16 11) (w.extractLsb' 0 15))
  | 0b11111#5 => .ok (.thumb32Space11 (w.extractLsb' 0 27))
  | _ => .error .notThumb32

/-- The decoder of fetched words (R301, R303). -/
def decode : Code → Except DecodeError Instr
  | .arm w => .ok (decodeArm w)
  | .thumb h => .ok (decodeThumb h)
  | .thumb32 w => decodeThumb32 w

/-! ## Bytes (R202, R300, R302) -/

/-- The length test on the first halfword (R300): h[15:11] is 11101, 11110 or 11111. -/
def isThumb32Prefix (h : Half) : Bool :=
  h.extractLsb' 11 5 == 0b11101#5 || h.extractLsb' 11 5 == 0b11110#5 || h.extractLsb' 11 5 == 0b11111#5

/-- The fetched words at the head of a list of bytes, with the rest of the list: little-endian (R202), the
first halfword of a 32-bit Thumb instruction at the lower address (R302). -/
def codeOfBytes (thumb : Bool) : List Byte → Except DecodeError (Code × List Byte)
  | b0 :: b1 :: rest =>
    let hw1 : Half := b1 ++ b0
    if thumb && !isThumb32Prefix hw1 then .ok (.thumb hw1, rest)
    else
      match rest with
      | b2 :: b3 :: rest' =>
        let hw2 : Half := b3 ++ b2
        if thumb then .ok (.thumb32 (hw1 ++ hw2), rest') else .ok (.arm (hw2 ++ hw1), rest')
      | _ => .error .truncated
  | _ => .error .truncated

/-- The instruction at the head of a list of bytes, with the rest of the list. -/
def decodeBytes (thumb : Bool) (bs : List Byte) : Except DecodeError (Instr × List Byte) :=
  match codeOfBytes thumb bs with
  | .ok (c, rest) =>
    match decode c with
    | .ok i => .ok (i, rest)
    | .error e => .error e
  | .error e => .error e

/-- The bytes of fetched words, lowest address first (R202, R302). -/
def Code.bytes : Code → List Byte
  | .arm w => [w.extractLsb' 0 8, w.extractLsb' 8 8, w.extractLsb' 16 8, w.extractLsb' 24 8]
  | .thumb h => [h.extractLsb' 0 8, h.extractLsb' 8 8]
  | .thumb32 w => [w.extractLsb' 16 8, w.extractLsb' 24 8, w.extractLsb' 0 8, w.extractLsb' 8 8]

/-! ## The encoder -/

/-- A field placed at bit lo of an n-bit word whose other bits are 0. -/
def place (n lo : Nat) {k : Nat} (x : BitVec k) : BitVec n := (x.setWidth n) <<< lo

/-- One bit placed at bit lo. -/
def placeBit (n lo : Nat) (b : Bool) : BitVec n := place n lo (BitVec.ofBool b)

/-- The shifter operand's bits, bit 25 included (R311). -/
def encodeOp2 : Operand2 → Word
  | .immShift rm kind amt => place 32 7 amt ||| place 32 5 kind.bits ||| place 32 0 rm
  | .regShift rm kind rs => 0x00000010#32 ||| place 32 8 rs ||| place 32 5 kind.bits ||| place 32 0 rm
  | .imm rot imm8 => 0x02000000#32 ||| place 32 8 rot ||| place 32 0 imm8

/-- A data-processing word: m holds the opcode, and for the tests the S bit (R311). -/
def encodeDp (m : Word) (c : Cond) (sf : Bool) (f19 f15 : BitVec 4) (op2 : Operand2) : Word :=
  m ||| place 32 28 c.bits ||| placeBit 32 20 sf ||| place 32 16 f19 ||| place 32 12 f15 ||| encodeOp2 op2

/-- A word of the formats with four 4-bit register fields (multiply, swap, miscellaneous; R311, R312). -/
def encode4 (m : Word) (c : Cond) (f19 f15 f11 f3 : BitVec 4) : Word :=
  m ||| place 32 28 c.bits ||| place 32 16 f19 ||| place 32 12 f15 ||| place 32 8 f11 ||| place 32 0 f3

/-- The mode-2 offset's bits, bit 25 included (R311). -/
def encodeOffset2 : Offset2 → Word
  | .imm offset12 => place 32 0 offset12
  | .reg rm kind amt => 0x02000000#32 ||| place 32 7 amt ||| place 32 5 kind.bits ||| place 32 0 rm

/-- The P and W bits of an indexing form (R501). -/
def encodeIndexing : Indexing → Word
  | .offset => 0x01000000#32
  | .preIndexed => 0x01200000#32
  | .postIndexed => 0x00000000#32

/-- A word or byte transfer: m holds the B and L bits and, for the T forms, W (R311). -/
def encodeSingle (m : Word) (c : Cond) (u : Bool) (rn rd : RegNum) (off : Offset2) : Word :=
  m ||| place 32 28 c.bits ||| placeBit 32 23 u ||| place 32 16 rn ||| place 32 12 rd ||| encodeOffset2 off

/-- The mode-3 offset's bits, bit 22 included (R311). -/
def encodeOffset3 : Offset3 → Word
  | .imm imm8 => 0x00400000#32 ||| place 32 8 (imm8.extractLsb' 4 4) ||| place 32 0 (imm8.extractLsb' 0 4)
  | .reg sb rm => place 32 8 sb ||| place 32 0 rm

/-- A halfword, signed byte or doubleword transfer: m holds the L, S and H bits (R311). -/
def encodeExtra (m : Word) (c : Cond) (p u w : Bool) (rn rd : RegNum) (off : Offset3) : Word :=
  m ||| place 32 28 c.bits ||| placeBit 32 24 p ||| placeBit 32 23 u ||| placeBit 32 21 w
    ||| place 32 16 rn ||| place 32 12 rd ||| encodeOffset3 off

/-- A block transfer: m holds the S and L bits and, for LDM(3), bit 15 (R311). -/
def encodeBlock {k : Nat} (m : Word) (c : Cond) (p u w : Bool) (rn : RegNum) (list : BitVec k) : Word :=
  m ||| place 32 28 c.bits ||| placeBit 32 24 p ||| placeBit 32 23 u ||| placeBit 32 21 w
    ||| place 32 16 rn ||| place 32 0 list

/-- A coprocessor load or store: m holds the L bit (R311). -/
def encodeCopLs (m : Word) (c : Cond) (p u n w : Bool) (rn crd cp : BitVec 4) (offset8 : BitVec 8) : Word :=
  m ||| place 32 28 c.bits ||| placeBit 32 24 p ||| placeBit 32 23 u ||| placeBit 32 22 n
    ||| placeBit 32 21 w ||| place 32 16 rn ||| place 32 12 crd ||| place 32 8 cp ||| place 32 0 offset8

/-- A coprocessor register transfer: m holds the L bit and bit 4 (R311). -/
def encodeCopRt (m : Word) (c : Cond) (op1 : BitVec 3) (crn rd cp : BitVec 4) (op2 : BitVec 3)
    (crm : BitVec 4) : Word :=
  m ||| place 32 28 c.bits ||| place 32 21 op1 ||| place 32 16 crn ||| place 32 12 rd ||| place 32 8 cp
    ||| place 32 5 op2 ||| place 32 0 crm

/-- A coprocessor data operation (R311). -/
def encodeCdp (m : Word) (c : Cond) (op1 crn crd cp : BitVec 4) (op2 : BitVec 3) (crm : BitVec 4) : Word :=
  m ||| place 32 28 c.bits ||| place 32 20 op1 ||| place 32 16 crn ||| place 32 12 crd ||| place 32 8 cp
    ||| place 32 5 op2 ||| place 32 0 crm

/-- A branch or software interrupt word (R311). -/
def encodeImm24 (m : Word) (c : Cond) (imm24 : BitVec 24) : Word :=
  m ||| place 32 28 c.bits ||| place 32 0 imm24

/-- A Thumb halfword of the formats with a 5-bit immediate and two registers (R340). -/
def encodeT5 (m : Half) (imm5 : BitVec 5) (f5 f2 : LowReg) : Half :=
  m ||| place 16 6 imm5 ||| place 16 3 f5 ||| place 16 0 f2

/-- A Thumb halfword of the formats with three 3-bit fields (R340). -/
def encodeT333 (m : Half) (f8 f5 f2 : BitVec 3) : Half :=
  m ||| place 16 6 f8 ||| place 16 3 f5 ||| place 16 0 f2

/-- A Thumb halfword of the formats with two 3-bit fields (R340). -/
def encodeT33 (m : Half) (f5 f2 : LowReg) : Half := m ||| place 16 3 f5 ||| place 16 0 f2

/-- A Thumb halfword of the formats with a register and an 8-bit field (R340). -/
def encodeT38 (m : Half) (f10 : LowReg) (f7 : BitVec 8) : Half := m ||| place 16 8 f10 ||| place 16 0 f7

/-- A Thumb halfword of the hi-register formats (R340). -/
def encodeTHi (m : Half) (h1 h2 : Bool) (f5 f2 : BitVec 3) : Half :=
  m ||| placeBit 16 7 h1 ||| placeBit 16 6 h2 ||| place 16 3 f5 ||| place 16 0 f2

/-- A 32-bit Thumb branch: m fixes bits 15, 14 and 12 (R351). -/
def encodeT2Branch (m : Word) (s : Bool) (imm10 : BitVec 10) (j1 j2 : Bool) (imm11 : BitVec 11) : Word :=
  m ||| placeBit 32 26 s ||| place 32 16 imm10 ||| placeBit 32 13 j1 ||| placeBit 32 11 j2
    ||| place 32 0 imm11

/-- A 32-bit Thumb miscellaneous control word: f16 stands at bit 16 (R351). -/
def encodeT2Misc {k : Nat} (m : Word) (f16 : BitVec k) (free13 : Bool) (free12 : BitVec 12) : Word :=
  m ||| place 32 16 f16 ||| placeBit 32 13 free13 ||| place 32 0 free12

/-- The words of an instruction (the match and fields of its row of spec/opcode_table.json). -/
def encode : Instr → Code
  | .armAnd c sf rn rd op2 => .arm (encodeDp 0x00000000#32 c sf rn rd op2)
  | .armEor c sf rn rd op2 => .arm (encodeDp 0x00200000#32 c sf rn rd op2)
  | .armSub c sf rn rd op2 => .arm (encodeDp 0x00400000#32 c sf rn rd op2)
  | .armRsb c sf rn rd op2 => .arm (encodeDp 0x00600000#32 c sf rn rd op2)
  | .armAdd c sf rn rd op2 => .arm (encodeDp 0x00800000#32 c sf rn rd op2)
  | .armAdc c sf rn rd op2 => .arm (encodeDp 0x00A00000#32 c sf rn rd op2)
  | .armSbc c sf rn rd op2 => .arm (encodeDp 0x00C00000#32 c sf rn rd op2)
  | .armRsc c sf rn rd op2 => .arm (encodeDp 0x00E00000#32 c sf rn rd op2)
  | .armTst c rn sb op2 => .arm (encodeDp 0x01000000#32 c true rn sb op2)
  | .armTeq c rn sb op2 => .arm (encodeDp 0x01200000#32 c true rn sb op2)
  | .armCmp c rn sb op2 => .arm (encodeDp 0x01400000#32 c true rn sb op2)
  | .armCmn c rn sb op2 => .arm (encodeDp 0x01600000#32 c true rn sb op2)
  | .armOrr c sf rn rd op2 => .arm (encodeDp 0x01800000#32 c sf rn rd op2)
  | .armMov c sf sb rd op2 => .arm (encodeDp 0x01A00000#32 c sf sb rd op2)
  | .armBic c sf rn rd op2 => .arm (encodeDp 0x01C00000#32 c sf rn rd op2)
  | .armMvn c sf sb rd op2 => .arm (encodeDp 0x01E00000#32 c sf sb rd op2)
  | .armMul c sf rd sb rs rm => .arm (encode4 (0x00000090#32 ||| placeBit 32 20 sf) c rd sb rs rm)
  | .armMla c sf rd rn rs rm => .arm (encode4 (0x00200090#32 ||| placeBit 32 20 sf) c rd rn rs rm)
  | .armUmull c sf rdHi rdLo rs rm => .arm (encode4 (0x00800090#32 ||| placeBit 32 20 sf) c rdHi rdLo rs rm)
  | .armUmlal c sf rdHi rdLo rs rm => .arm (encode4 (0x00A00090#32 ||| placeBit 32 20 sf) c rdHi rdLo rs rm)
  | .armSmull c sf rdHi rdLo rs rm => .arm (encode4 (0x00C00090#32 ||| placeBit 32 20 sf) c rdHi rdLo rs rm)
  | .armSmlal c sf rdHi rdLo rs rm => .arm (encode4 (0x00E00090#32 ||| placeBit 32 20 sf) c rdHi rdLo rs rm)
  | .armSmlaxy c rd rn rs y x rm =>
    .arm (encode4 (0x01000080#32 ||| placeBit 32 6 y ||| placeBit 32 5 x) c rd rn rs rm)
  | .armSmlawy c rd rn rs y rm => .arm (encode4 (0x01200080#32 ||| placeBit 32 6 y) c rd rn rs rm)
  | .armSmulwy c rd sb rs y rm => .arm (encode4 (0x012000A0#32 ||| placeBit 32 6 y) c rd sb rs rm)
  | .armSmlalxy c rdHi rdLo rs y x rm =>
    .arm (encode4 (0x01400080#32 ||| placeBit 32 6 y ||| placeBit 32 5 x) c rdHi rdLo rs rm)
  | .armSmulxy c rd sb rs y x rm =>
    .arm (encode4 (0x01600080#32 ||| placeBit 32 6 y ||| placeBit 32 5 x) c rd sb rs rm)
  | .armQadd c rn rd sb rm => .arm (encode4 0x01000050#32 c rn rd sb rm)
  | .armQsub c rn rd sb rm => .arm (encode4 0x01200050#32 c rn rd sb rm)
  | .armQdadd c rn rd sb rm => .arm (encode4 0x01400050#32 c rn rd sb rm)
  | .armQdsub c rn rd sb rm => .arm (encode4 0x01600050#32 c rn rd sb rm)
  | .armLdr c u ix rn rd off => .arm (encodeSingle (0x04100000#32 ||| encodeIndexing ix) c u rn rd off)
  | .armStr c u ix rn rd off => .arm (encodeSingle (0x04000000#32 ||| encodeIndexing ix) c u rn rd off)
  | .armLdrb c u ix rn rd off => .arm (encodeSingle (0x04500000#32 ||| encodeIndexing ix) c u rn rd off)
  | .armStrb c u ix rn rd off => .arm (encodeSingle (0x04400000#32 ||| encodeIndexing ix) c u rn rd off)
  | .armLdrt c u rn rd off => .arm (encodeSingle 0x04300000#32 c u rn rd off)
  | .armStrt c u rn rd off => .arm (encodeSingle 0x04200000#32 c u rn rd off)
  | .armLdrbt c u rn rd off => .arm (encodeSingle 0x04700000#32 c u rn rd off)
  | .armStrbt c u rn rd off => .arm (encodeSingle 0x04600000#32 c u rn rd off)
  | .armLdrh c p u w rn rd off => .arm (encodeExtra 0x001000B0#32 c p u w rn rd off)
  | .armStrh c p u w rn rd off => .arm (encodeExtra 0x000000B0#32 c p u w rn rd off)
  | .armLdrsb c p u w rn rd off => .arm (encodeExtra 0x001000D0#32 c p u w rn rd off)
  | .armLdrsh c p u w rn rd off => .arm (encodeExtra 0x001000F0#32 c p u w rn rd off)
  | .armLdrd c p u w rn rd off => .arm (encodeExtra 0x000000D0#32 c p u w rn rd off)
  | .armStrd c p u w rn rd off => .arm (encodeExtra 0x000000F0#32 c p u w rn rd off)
  | .armSwp c rn rd sb rm => .arm (encode4 0x01000090#32 c rn rd sb rm)
  | .armSwpb c rn rd sb rm => .arm (encode4 0x01400090#32 c rn rd sb rm)
  | .armPldImm u rn sb offset12 =>
    .arm (0xF5500000#32 ||| placeBit 32 23 u ||| place 32 16 rn ||| place 32 12 sb ||| place 32 0 offset12)
  | .armPldReg u rn sb amt kind rm =>
    .arm (0xF7500000#32 ||| placeBit 32 23 u ||| place 32 16 rn ||| place 32 12 sb ||| place 32 7 amt
      ||| place 32 5 kind.bits ||| place 32 0 rm)
  | .armLdm1 c p u w rn list => .arm (encodeBlock 0x08100000#32 c p u w rn list)
  | .armLdm2 c p u w rn list => .arm (encodeBlock 0x08500000#32 c p u w rn list)
  | .armLdm3 c p u w rn list => .arm (encodeBlock 0x08508000#32 c p u w rn list)
  | .armStm1 c p u w rn list => .arm (encodeBlock 0x08000000#32 c p u w rn list)
  | .armStm2 c p u w rn list => .arm (encodeBlock 0x08400000#32 c p u w rn list)
  | .armB c imm24 => .arm (encodeImm24 0x0A000000#32 c imm24)
  | .armBl c imm24 => .arm (encodeImm24 0x0B000000#32 c imm24)
  | .armBx c sb rm => .arm (0x01200010#32 ||| place 32 28 c.bits ||| place 32 8 sb ||| place 32 0 rm)
  | .armBlxImm h imm24 => .arm (0xFA000000#32 ||| placeBit 32 24 h ||| place 32 0 imm24)
  | .armBlxReg c sb rm => .arm (0x01200030#32 ||| place 32 28 c.bits ||| place 32 8 sb ||| place 32 0 rm)
  | .armMrs c r sb19 rd sb11 sb3 => .arm (encode4 (0x01000000#32 ||| placeBit 32 22 r) c sb19 rd sb11 sb3)
  | .armMsrReg c r mask sb rm =>
    .arm (0x01200000#32 ||| place 32 28 c.bits ||| placeBit 32 22 r ||| place 32 16 mask ||| place 32 8 sb
      ||| place 32 0 rm)
  | .armMsrImm c r mask sb rot imm8 =>
    .arm (0x03200000#32 ||| place 32 28 c.bits ||| placeBit 32 22 r ||| place 32 16 mask ||| place 32 12 sb
      ||| place 32 8 rot ||| place 32 0 imm8)
  | .armClz c sb19 rd sb11 rm => .arm (encode4 0x01600010#32 c sb19 rd sb11 rm)
  | .armBkpt c immH immL => .arm (0x01200070#32 ||| place 32 28 c.bits ||| place 32 8 immH ||| place 32 0 immL)
  | .armSwi c imm24 => .arm (encodeImm24 0x0F000000#32 c imm24)
  | .armUndefined w => .arm w
  | .armMcr c op1 crn rd cp op2 crm => .arm (encodeCopRt 0x0E000010#32 c op1 crn rd cp op2 crm)
  | .armMrc c op1 crn rd cp op2 crm => .arm (encodeCopRt 0x0E100010#32 c op1 crn rd cp op2 crm)
  | .armCdp c op1 crn crd cp op2 crm => .arm (encodeCdp 0x0E000000#32 c op1 crn crd cp op2 crm)
  | .armLdc c p u n w rn crd cp offset8 => .arm (encodeCopLs 0x0C100000#32 c p u n w rn crd cp offset8)
  | .armStc c p u n w rn crd cp offset8 => .arm (encodeCopLs 0x0C000000#32 c p u n w rn crd cp offset8)
  | .armMcrr c rn rd cp op crm => .arm (encode4 (0x0C400000#32 ||| place 32 4 op) c rn rd cp crm)
  | .armMrrc c rn rd cp op crm => .arm (encode4 (0x0C500000#32 ||| place 32 4 op) c rn rd cp crm)
  | .armCdp2 op1 crn crd cp op2 crm => .arm (encodeCdp 0x0E000000#32 .nv op1 crn crd cp op2 crm)
  | .armLdc2 p u n w rn crd cp offset8 => .arm (encodeCopLs 0x0C100000#32 .nv p u n w rn crd cp offset8)
  | .armStc2 p u n w rn crd cp offset8 => .arm (encodeCopLs 0x0C000000#32 .nv p u n w rn crd cp offset8)
  | .armMcr2 op1 crn rd cp op2 crm => .arm (encodeCopRt 0x0E000010#32 .nv op1 crn rd cp op2 crm)
  | .armMrc2 op1 crn rd cp op2 crm => .arm (encodeCopRt 0x0E100010#32 .nv op1 crn rd cp op2 crm)
  | .thumbLslImm imm5 rm rd => .thumb (encodeT5 0x0000#16 imm5 rm rd)
  | .thumbLsrImm imm5 rm rd => .thumb (encodeT5 0x0800#16 imm5 rm rd)
  | .thumbAsrImm imm5 rm rd => .thumb (encodeT5 0x1000#16 imm5 rm rd)
  | .thumbAddReg rm rn rd => .thumb (encodeT333 0x1800#16 rm rn rd)
  | .thumbSubReg rm rn rd => .thumb (encodeT333 0x1A00#16 rm rn rd)
  | .thumbAddImm3 imm3 rn rd => .thumb (encodeT333 0x1C00#16 imm3 rn rd)
  | .thumbSubImm3 imm3 rn rd => .thumb (encodeT333 0x1E00#16 imm3 rn rd)
  | .thumbMovImm rd imm8 => .thumb (encodeT38 0x2000#16 rd imm8)
  | .thumbCmpImm rn imm8 => .thumb (encodeT38 0x2800#16 rn imm8)
  | .thumbAddImm8 rd imm8 => .thumb (encodeT38 0x3000#16 rd imm8)
  | .thumbSubImm8 rd imm8 => .thumb (encodeT38 0x3800#16 rd imm8)
  | .thumbAnd rm rd => .thumb (encodeT33 0x4000#16 rm rd)
  | .thumbEor rm rd => .thumb (encodeT33 0x4040#16 rm rd)
  | .thumbLslReg rm rd => .thumb (encodeT33 0x4080#16 rm rd)
  | .thumbLsrReg rm rd => .thumb (encodeT33 0x40C0#16 rm rd)
  | .thumbAsrReg rm rd => .thumb (encodeT33 0x4100#16 rm rd)
  | .thumbAdc rm rd => .thumb (encodeT33 0x4140#16 rm rd)
  | .thumbSbc rm rd => .thumb (encodeT33 0x4180#16 rm rd)
  | .thumbRor rm rd => .thumb (encodeT33 0x41C0#16 rm rd)
  | .thumbTst rm rd => .thumb (encodeT33 0x4200#16 rm rd)
  | .thumbNeg rm rd => .thumb (encodeT33 0x4240#16 rm rd)
  | .thumbCmpReg rm rd => .thumb (encodeT33 0x4280#16 rm rd)
  | .thumbCmn rm rd => .thumb (encodeT33 0x42C0#16 rm rd)
  | .thumbOrr rm rd => .thumb (encodeT33 0x4300#16 rm rd)
  | .thumbMul rm rd => .thumb (encodeT33 0x4340#16 rm rd)
  | .thumbBic rm rd => .thumb (encodeT33 0x4380#16 rm rd)
  | .thumbMvn rm rd => .thumb (encodeT33 0x43C0#16 rm rd)
  | .thumbAddHi h1 h2 rm rd => .thumb (encodeTHi 0x4400#16 h1 h2 rm rd)
  | .thumbCmpHi h1 h2 rm rn => .thumb (encodeTHi 0x4500#16 h1 h2 rm rn)
  | .thumbMovHi h1 h2 rm rd => .thumb (encodeTHi 0x4600#16 h1 h2 rm rd)
  | .thumbBx h2 rm sb => .thumb (encodeTHi 0x4700#16 false h2 rm sb)
  | .thumbBlxReg h2 rm sb => .thumb (encodeTHi 0x4700#16 true h2 rm sb)
  | .thumbLdrPc rd imm8 => .thumb (encodeT38 0x4800#16 rd imm8)
  | .thumbStrReg rm rn rd => .thumb (encodeT333 0x5000#16 rm rn rd)
  | .thumbStrhReg rm rn rd => .thumb (encodeT333 0x5200#16 rm rn rd)
  | .thumbStrbReg rm rn rd => .thumb (encodeT333 0x5400#16 rm rn rd)
  | .thumbLdrsb rm rn rd => .thumb (encodeT333 0x5600#16 rm rn rd)
  | .thumbLdrReg rm rn rd => .thumb (encodeT333 0x5800#16 rm rn rd)
  | .thumbLdrhReg rm rn rd => .thumb (encodeT333 0x5A00#16 rm rn rd)
  | .thumbLdrbReg rm rn rd => .thumb (encodeT333 0x5C00#16 rm rn rd)
  | .thumbLdrsh rm rn rd => .thumb (encodeT333 0x5E00#16 rm rn rd)
  | .thumbStrImm imm5 rn rd => .thumb (encodeT5 0x6000#16 imm5 rn rd)
  | .thumbLdrImm imm5 rn rd => .thumb (encodeT5 0x6800#16 imm5 rn rd)
  | .thumbStrbImm imm5 rn rd => .thumb (encodeT5 0x7000#16 imm5 rn rd)
  | .thumbLdrbImm imm5 rn rd => .thumb (encodeT5 0x7800#16 imm5 rn rd)
  | .thumbStrhImm imm5 rn rd => .thumb (encodeT5 0x8000#16 imm5 rn rd)
  | .thumbLdrhImm imm5 rn rd => .thumb (encodeT5 0x8800#16 imm5 rn rd)
  | .thumbStrSp rd imm8 => .thumb (encodeT38 0x9000#16 rd imm8)
  | .thumbLdrSp rd imm8 => .thumb (encodeT38 0x9800#16 rd imm8)
  | .thumbAddPc rd imm8 => .thumb (encodeT38 0xA000#16 rd imm8)
  | .thumbAddSp rd imm8 => .thumb (encodeT38 0xA800#16 rd imm8)
  | .thumbAddSpImm7 imm7 => .thumb (0xB000#16 ||| place 16 0 imm7)
  | .thumbSubSpImm7 imm7 => .thumb (0xB080#16 ||| place 16 0 imm7)
  | .thumbPush r list => .thumb (0xB400#16 ||| placeBit 16 8 r ||| place 16 0 list)
  | .thumbPop r list => .thumb (0xBC00#16 ||| placeBit 16 8 r ||| place 16 0 list)
  | .thumbStmia rn list => .thumb (encodeT38 0xC000#16 rn list)
  | .thumbLdmia rn list => .thumb (encodeT38 0xC800#16 rn list)
  | .thumbBkpt imm8 => .thumb (0xBE00#16 ||| place 16 0 imm8)
  | .thumbUndefined h => .thumb h
  | .thumbSwi imm8 => .thumb (0xDF00#16 ||| place 16 0 imm8)
  | .thumbBCond c imm8 => .thumb (0xD000#16 ||| place 16 8 c.bits ||| place 16 0 imm8)
  | .thumbB imm11 => .thumb (0xE000#16 ||| place 16 0 imm11)
  | .thumb32Bl s imm10 j1 j2 imm11 => .thumb32 (encodeT2Branch 0xF000D000#32 s imm10 j1 j2 imm11)
  | .thumb32BlxImm s imm10H j1 j2 imm10L h =>
    .thumb32 (0xF000C000#32 ||| placeBit 32 26 s ||| place 32 16 imm10H ||| placeBit 32 13 j1
      ||| placeBit 32 11 j2 ||| place 32 1 imm10L ||| placeBit 32 0 h)
  | .thumb32BT4 s imm10 j1 j2 imm11 => .thumb32 (encodeT2Branch 0xF0009000#32 s imm10 j1 j2 imm11)
  | .thumb32Udf imm4 imm12 => .thumb32 (0xF7F0A000#32 ||| place 32 16 imm4 ||| place 32 0 imm12)
  | .thumb32Smc imm4 free12 => .thumb32 (0xF7F08000#32 ||| place 32 16 imm4 ||| place 32 0 free12)
  | .thumb32Msr free5 free13 free12 => .thumb32 (encodeT2Misc 0xF3808000#32 free5 free13 free12)
  | .thumb32Hint free4 free13 free12 => .thumb32 (encodeT2Misc 0xF3A08000#32 free4 free13 free12)
  | .thumb32MiscCtl free4 free13 free12 => .thumb32 (encodeT2Misc 0xF3B08000#32 free4 free13 free12)
  | .thumb32Bxj free4 free13 free12 => .thumb32 (encodeT2Misc 0xF3C08000#32 free4 free13 free12)
  | .thumb32SubsPcLr free4 free13 free12 => .thumb32 (encodeT2Misc 0xF3D08000#32 free4 free13 free12)
  | .thumb32Mrs free5 free13 free12 => .thumb32 (encodeT2Misc 0xF3E08000#32 free5 free13 free12)
  | .thumb32BrMiscUndef opm free4 free13 free12 =>
    .thumb32 (0xF7808000#32 ||| place 32 20 opm ||| place 32 16 free4 ||| placeBit 32 13 free13
      ||| place 32 0 free12)
  | .thumb32BT3 s cond imm6 j1 j2 imm11 =>
    .thumb32 (0xF0008000#32 ||| placeBit 32 26 s ||| place 32 22 cond ||| place 32 16 imm6
      ||| placeBit 32 13 j1 ||| placeBit 32 11 j2 ||| place 32 0 imm11)
  | .thumb32DpImm free11 free15 => .thumb32 (0xF0000000#32 ||| place 32 16 free11 ||| place 32 0 free15)
  | .thumb32Space01 free27 => .thumb32 (0xE8000000#32 ||| place 32 0 free27)
  | .thumb32Space11 free27 => .thumb32 (0xF8000000#32 ||| place 32 0 free27)

/-! ## The opcode table's words -/

/-- The fetched words that a row of spec/opcode_table.json of nbits bits stands for. The table numbers a
32-bit Thumb row as hw1 << 16 | hw2 (R350), so w is read so. An ARM row and a 32-bit Thumb row both have 32
bits and the table's word does not say which table it is of: a word that passes the Thumb length test of
R300 is read as 32-bit Thumb where the ARM tables give it no effect (an UNDEFINED word, or a block transfer
with an empty list, R551), and as ARM otherwise. DESIGN CHOICE, log entry 12. -/
def tableCode (nbits w : Nat) : Option Code :=
  if nbits ≤ 16 then
    let h := BitVec.ofNat 16 w
    if isThumb32Prefix h then some (.thumb32 (h ++ 0#16)) else some (.thumb h)
  else if nbits ≤ 32 then
    let v := BitVec.ofNat 32 w
    let emptyBlock := v.extractLsb' 25 3 == 0b100#3 && v.extractLsb' 0 16 == 0#16
    if isThumb32Prefix (v.extractLsb' 16 16) && (undefinedArmWord v || emptyBlock) then some (.thumb32 v)
    else some (.arm v)
  else none

/-- The table a fetched word is of: true for the two Thumb tables (R301). -/
def Code.isThumb : Code → Bool
  | .arm _ => false
  | .thumb _ => true
  | .thumb32 _ => true

/-- What the decoder reads from the bytes of an opcode table's word. -/
def decodeTableWord (nbits w : Nat) : Option Instr :=
  match tableCode nbits w with
  | some c =>
    match decodeBytes c.isThumb c.bytes with
    | .ok (i, _) => some i
    | .error _ => none
  | none => none

end Sys2Proof
end

