-- ==== Sys2Proof/Machine/State.lean ====
section
/-! DEFINITION. The state of the ememu core as plain data (spec/10_state.md, spec/60_exceptions.md,
spec/70_reset_and_hazards.md), the reasons a step can stop, and the state after reset. -/

namespace Sys2Proof.Machine

/-! ## Names -/

/-- The seven processor modes (R101). -/
inductive Mode where
  | usr | fiq | irq | svc | abt | und | sys
  deriving DecidableEq, Repr

/-- The five exception banks: the modes with an SPSR (R101, R103). -/
inductive Bank where
  | fiq | irq | svc | abt | und
  deriving DecidableEq, Repr

/-- The general register cells of R102 other than the PC. -/
inductive PhysReg where
  | r0 | r1 | r2 | r3 | r4 | r5 | r6 | r7
  | r8usr | r9usr | r10usr | r11usr | r12usr
  | r8fiq | r9fiq | r10fiq | r11fiq | r12fiq
  | r13usr | r14usr | r13svc | r14svc | r13abt | r14abt
  | r13und | r14und | r13irq | r14irq | r13fiq | r14fiq
  deriving DecidableEq, Repr

/-- The seven architected exceptions, in slot order (R140, R906). -/
inductive ExcKind where
  | reset | undefinedInstruction | softwareInterrupt | prefetchAbort | dataAbort | irq | fiq
  deriving DecidableEq, Repr

/-- The diagnostic string of a raise (R905), as a closed list of the reasons the spec's rules give; it has
no effect on architectural state (R140). -/
inductive Reason where
  /-- The power-on reset request (R1000). -/
  | powerOn
  /-- An UNDEFINED row (R657, R827). -/
  | undefinedWord
  /-- The 32-bit Thumb UDF (R853). -/
  | permanentlyUndefined
  /-- A coprocessor other than 15 under ABSENT_CP_POLICY = Undefined (R700). -/
  | absentCoprocessor
  /-- A CP15 instruction in User mode (R702). -/
  | cp15InUserMode
  /-- SWI (R656, R825). -/
  | swi
  /-- BKPT (R655, R826). -/
  | bkpt
  /-- An MMU fault (R224). -/
  | mmuFault
  /-- A failed read probe of a data access (R204). -/
  | busRead
  /-- A failed write probe of a data access (R205). -/
  | busWrite
  /-- A failed probe of SWP or SWPB (R520). -/
  | busSwap
  /-- A failed read probe of a fetch (R206). -/
  | busFetch
  /-- The IRQ line (R931). -/
  | irqLine
  /-- The FIQ line (R931). -/
  | fiqLine
  deriving DecidableEq, Repr

/-- Access sizes: byte, halfword, word (R203). -/
inductive AccSize where
  | byte | half | word
  deriving DecidableEq, Repr

/-! ## The parts of the state -/

/-- The 30 general register cells of R102 other than the PC. -/
structure Regs where
  r0 : Word
  r1 : Word
  r2 : Word
  r3 : Word
  r4 : Word
  r5 : Word
  r6 : Word
  r7 : Word
  r8usr : Word
  r9usr : Word
  r10usr : Word
  r11usr : Word
  r12usr : Word
  r8fiq : Word
  r9fiq : Word
  r10fiq : Word
  r11fiq : Word
  r12fiq : Word
  r13usr : Word
  r14usr : Word
  r13svc : Word
  r14svc : Word
  r13abt : Word
  r14abt : Word
  r13und : Word
  r14und : Word
  r13irq : Word
  r14irq : Word
  r13fiq : Word
  r14fiq : Word
  deriving DecidableEq, Repr

/-- The five saved program status registers (R102, R112). -/
structure Spsrs where
  fiq : Word
  irq : Word
  svc : Word
  abt : Word
  und : Word
  deriving DecidableEq, Repr

/-- The pending exception set: one slot per exception, empty or holding the reason of its raise (R140). -/
structure Pending where
  reset : Option Reason
  undefinedInstruction : Option Reason
  softwareInterrupt : Option Reason
  prefetchAbort : Option Reason
  dataAbort : Option Reason
  irq : Option Reason
  fiq : Option Reason
  deriving DecidableEq, Repr

/-- The two interrupt input lines during one step (R930). -/
structure Lines where
  irq : Bool
  fiq : Bool
  deriving DecidableEq, Repr

/-- A range of physical addresses at which the bus probes answer false (R201): for reads, for writes or for
both, at one access size or at every size. -/
structure BusHole where
  first : Nat
  last : Nat
  size : Option AccSize
  reads : Bool
  writes : Bool
  deriving DecidableEq, Repr

/-- Physical memory: the bytes that differ from Config.unlistedByte, addresses strictly rising (R200, R201). -/
abbrev Memory := List Host.Cell

/-- The state of the core and, beside it, its parameters (R8), its physical memory, the answers of its
environment, and the model's own counter of free draws. -/
structure State where
  /-- The general registers (R102). -/
  regs : Regs
  /-- The PC cell: the address of the instruction being executed, raw_pc (R107). -/
  pc : Word
  /-- The current program status register (R111). -/
  cpsr : Word
  /-- The saved program status registers (R112). -/
  spsr : Spsrs
  /-- CP15 c1 control register (R123). -/
  control : Word
  /-- CP15 c2 translation table base (R125). -/
  ttb : Word
  /-- CP15 c3 domain access control register (R126). -/
  dacr : Word
  /-- CP15 c5 fault status register (R127). -/
  fsr : Word
  /-- CP15 c6 fault address register (R128). -/
  far : Word
  /-- CP15 c0 main ID register, the parameter CP15_MIDR (R121). -/
  midr : Word
  /-- CP15 c0 cache type register, the parameter CP15_CTR (R122). -/
  ctr : Word
  /-- The pending exception set (R140). -/
  pending : Pending
  /-- The sticky fault flag of the MMU (R141). -/
  faultFlag : Bool
  /-- The wait-for-interrupt flag (R142). -/
  waiting : Bool
  /-- The jumped flag (R108). -/
  jumped : Bool
  /-- Physical memory (R200). -/
  mem : Memory
  /-- Where the bus probes fail (R201, parameter Bus of R8). -/
  bus : List BusHole
  /-- The interrupt lines of the coming steps, the next step's first; past its end both are low
  (IRQ_LINE and FIQ_LINE of R8). -/
  lines : List Lines
  /-- The parameter IRQ_LR_OFFSET (R8, R913). -/
  irqLrOffset : LrOffset
  /-- The parameter ABSENT_CP_POLICY (R8, R700). -/
  absentCp : AbsentCp
  /-- The model's own: how many free draws of an UNKNOWN domain have been made (R224, log entry 6). -/
  draws : Nat
  deriving DecidableEq, Repr

/-! ## The reasons a step can stop -/

/-- The stops the spec calls Fatal (R11): invariant violations of the core. -/
inductive Fault where
  /-- Raised by every raise while a pending slot is set (R905). Safe: the spec stops here too, and no run
  from reset reaches it. -/
  | raiseWhileOutstanding
  /-- Raised by a translation started while the sticky fault flag is set (R141). Safe: the spec stops here
  too, and no run from reset reaches it. -/
  | translateWithFaultFlag
  /-- Raised by an access to the SPSR in User or System mode (R105). Safe: the spec stops here too. -/
  | spsrAccess
  deriving DecidableEq, Repr

/-- The reasons of the stop Unsupported (R11): what the core is stated not to implement. -/
inductive UnsupportedReason where
  /-- A CPSR write with a mode field that is no mode (R111). -/
  | malformedMode
  /-- The control register's B bit written 1 (R123). -/
  | bigEndian
  /-- The control register's L4 bit written 1 (R123). -/
  | armv4PcLoad
  /-- A process ID other than 0 (R131). -/
  | fcseRelocation
  /-- An id that names no CP15 register (R120). -/
  | invalidCp15Id
  /-- A read of a write-only id or a write of a read-only operation (R129, R130). -/
  | invalidCp15Access
  /-- A coprocessor other than 15 under ABSENT_CP_POLICY = Unsupported (R700). -/
  | unknownCoprocessor
  /-- A coprocessor form other than MCR and MRC addressed to CP15 (R706 to R710). -/
  | formToCp15
  /-- A large-page descriptor in a fine table (R217). -/
  | largePageInFineTable
  /-- A tiny-page descriptor in a coarse table (R217). -/
  | tinyPageInCoarseTable
  /-- A DSP multiply or a saturating instruction (R457). -/
  | dspInstruction
  /-- A BL or BLX pair with J1 or J2 clear (R851, R852). -/
  | thumb2Range
  /-- SMC (R854). -/
  | smc
  /-- A 32-bit Thumb B (R855, R856). -/
  | thumb2Branch
  /-- A 32-bit Thumb miscellaneous control form (R857). -/
  | thumb2Control
  /-- A word of the other 32-bit Thumb spaces (R858). -/
  | thumb2Space
  deriving DecidableEq, Repr

/-- The reasons of the stop Unpredictable (R11). -/
inductive UnpredictableReason where
  /-- A should-be field (R306). -/
  | shouldBeField
  /-- An ARM PC write that is not word aligned (R109). -/
  | armPcWrite
  /-- An exchange to ARM state with bit 1 set (R109). -/
  | bxToArm
  /-- A halfword access at an odd address (R207). -/
  | misalignedHalfword
  /-- A doubleword access not 8-aligned that the alignment check does not take (R207, R518, R519, log entry 21). -/
  | misalignedDoubleword
  /-- AP = 00 with S = R = 1 (R223). -/
  | reservedPermission
  /-- r15 in a register-shift operand (R403). -/
  | r15RegisterShift
  /-- A multiply's register restriction (R450, R775). -/
  | multiplyRegisters
  /-- r15 as mode-2 or mode-3 offset register (R500, R513). -/
  | r15Offset
  /-- A mode-2 restriction (R502). -/
  | mode2Restriction
  /-- A PC load from a misaligned address (R505). -/
  | misalignedPcLoad
  /-- A mode-3 restriction, P = 0 with W = 1 among them (R513). -/
  | mode3Restriction
  /-- An LDRD or STRD register restriction (R518, R519). -/
  | doublewordRegisters
  /-- A SWP or SWPB register restriction (R520). -/
  | swapRegisters
  /-- A block transfer's list or base restriction (R551, R817 to R821). -/
  | blockList
  /-- LDM(2) or STM(2) with write-back (R554, R558). -/
  | userBankWriteBack
  /-- BLX(2) with r15 (R604, R824). -/
  | blxPc
  /-- MRS to r15 (R650). -/
  | mrsToPc
  /-- MSR that changes T (R651). -/
  | msrChangesT
  /-- MSR from r15 (R653). -/
  | msrFromPc
  /-- CLZ with r15 (R654). -/
  | clzPc
  /-- BKPT with a condition other than AL (R655). -/
  | bkptCondition
  /-- MCR from r15 (R704). -/
  | mcrFromPc
  /-- A hi-register form with two low registers (R778 to R780). -/
  | twoLowRegisters
  /-- A Thumb BLX pair with H = 1 (R852). -/
  | blxHalfword
  deriving DecidableEq, Repr

/-- The stops that are no fault of the machine: the spec gives the core no meaning to run there. -/
inductive Refusal where
  /-- Raised by an arm of exec whose instruction has no meaning yet. Safe. -/
  | notModelled (mnemonic : String)
  /-- Raised where the spec performs stop Unsupported (R11). Safe: the spec stops here too. -/
  | unsupported (why : UnsupportedReason)
  /-- Raised where the spec performs stop Unpredictable (R11). Safe: the spec stops here too. -/
  | unpredictable (why : UnpredictableReason)
  /-- Raised by step on bytes that are no instruction; the fetch of R300 makes none. Safe. -/
  | undecodable
  deriving DecidableEq, Repr

/-! ## Reset -/

/-- No slot set (R140). -/
def Pending.empty : Pending := ⟨.none, .none, .none, .none, .none, .none, .none⟩

/-- The power-on state (R145, R1000) of a core with HIVECS_INIT = hivecs. The registers that the spec leaves
unspecified (R106, R112, R125 to R128) are zero and the PC, which the reset entry overwrites unread, is the
reset vector: DESIGN CHOICE, unsafe, log entries 1 to 3. -/
def State.powerOn (hivecs : Bool) : State where
  regs :=
    { r0 := 0#32, r1 := 0#32, r2 := 0#32, r3 := 0#32, r4 := 0#32, r5 := 0#32, r6 := 0#32, r7 := 0#32,
      r8usr := 0#32, r9usr := 0#32, r10usr := 0#32, r11usr := 0#32, r12usr := 0#32,
      r8fiq := 0#32, r9fiq := 0#32, r10fiq := 0#32, r11fiq := 0#32, r12fiq := 0#32,
      r13usr := 0#32, r14usr := 0#32, r13svc := 0#32, r14svc := 0#32, r13abt := 0#32, r14abt := 0#32,
      r13und := 0#32, r14und := 0#32, r13irq := 0#32, r14irq := 0#32, r13fiq := 0#32, r14fiq := 0#32 }
  pc := if hivecs then 0xFFFF0000#32 else 0#32
  cpsr := 0x000000D3#32
  spsr := { fiq := 0#32, irq := 0#32, svc := 0#32, abt := 0#32, und := 0#32 }
  control := if hivecs then 0x00002070#32 else 0x00000070#32
  ttb := 0#32
  dacr := 0#32
  fsr := 0#32
  far := 0#32
  midr := Config.cp15Midr
  ctr := Config.cp15Ctr
  pending := { Pending.empty with reset := some .powerOn }
  faultFlag := false
  waiting := false
  jumped := false
  mem := []
  bus := []
  lines := []
  irqLrOffset := Config.irqLrOffset
  absentCp := Config.absentCp
  draws := 0

/-- The machine right after reset: the power-on state with the default HIVECS_INIT (R145, R1000). -/
def State.reset : State := State.powerOn Config.hivecsInit

end Sys2Proof.Machine
end

