-- ==== Sys2Proof/Machine/Flags.lean ====
section
/-! DEFINITION. The program status register's fields, the sixteen conditions and the adder
(spec/10_state.md R101, R111, R113, R114; spec/40_arm_data_processing.md R405, R406). -/

namespace Sys2Proof.Machine

/-! ## Modes (R101) -/

/-- The 5-bit encoding of a mode (R101). -/
def Mode.bits : Mode → BitVec 5
  | .usr => 0b10000#5
  | .fiq => 0b10001#5
  | .irq => 0b10010#5
  | .svc => 0b10011#5
  | .abt => 0b10111#5
  | .und => 0b11011#5
  | .sys => 0b11111#5

/-- The mode a 5-bit value names; none for a malformed mode value (R101). -/
def Mode.ofBits (b : BitVec 5) : Option Mode :=
  match b with
  | 0b10000#5 => some .usr
  | 0b10001#5 => some .fiq
  | 0b10010#5 => some .irq
  | 0b10011#5 => some .svc
  | 0b10111#5 => some .abt
  | 0b11011#5 => some .und
  | 0b11111#5 => some .sys
  | _ => none

/-! ## Fields of a program status register (R111) -/

/-- The word with bit i replaced. -/
def setBit (w : Word) (i : Nat) (b : Bool) : Word :=
  if b then w ||| BitVec.twoPow 32 i else w &&& ~~~BitVec.twoPow 32 i

/-- The N flag. -/
def psrN (p : Word) : Bool := p.getLsbD 31
/-- The Z flag. -/
def psrZ (p : Word) : Bool := p.getLsbD 30
/-- The C flag. -/
def psrC (p : Word) : Bool := p.getLsbD 29
/-- The V flag. -/
def psrV (p : Word) : Bool := p.getLsbD 28
/-- The I bit: IRQ disabled. -/
def psrI (p : Word) : Bool := p.getLsbD 7
/-- The F bit: FIQ disabled. -/
def psrF (p : Word) : Bool := p.getLsbD 6
/-- The T bit: Thumb state. -/
def psrT (p : Word) : Bool := p.getLsbD 5
/-- The mode field M. -/
def psrM (p : Word) : BitVec 5 := p.extractLsb' 0 5

/-- N and Z replaced, as a multiply writes them (R113). -/
def withNZ (p : Word) (n z : Bool) : Word := setBit (setBit p 31 n) 30 z
/-- N, Z and C replaced, as a logical operation writes them (R406). -/
def withNZC (p : Word) (n z c : Bool) : Word := setBit (withNZ p n z) 29 c
/-- N, Z, C and V replaced, as an arithmetic operation writes them (R406). -/
def withNZCV (p : Word) (n z c v : Bool) : Word := setBit (withNZC p n z c) 28 v
/-- The T bit replaced (R109). -/
def withT (p : Word) (t : Bool) : Word := setBit p 5 t
/-- The mode field replaced (R910). -/
def withM (p : Word) (m : Mode) : Word := (p &&& 0xFFFFFFE0#32) ||| m.bits.setWidth 32

/-! ## Conditions (R114) -/

/-- ConditionPassed: the sixteen rows of R114 over a program status register. -/
def condPassed (c : Cond) (p : Word) : Bool :=
  match c with
  | .eq => psrZ p
  | .ne => !psrZ p
  | .cs => psrC p
  | .cc => !psrC p
  | .mi => psrN p
  | .pl => !psrN p
  | .vs => psrV p
  | .vc => !psrV p
  | .hi => psrC p && !psrZ p
  | .ls => !psrC p || psrZ p
  | .ge => psrN p == psrV p
  | .lt => psrN p != psrV p
  | .gt => !psrZ p && psrN p == psrV p
  | .le => psrZ p || psrN p != psrV p
  | .al => true
  | .nv => false

/-! ## The adder (R405) -/

/-- The result of an operation, its carry and its overflow. -/
structure AluOut where
  result : Word
  carry : Bool
  overflow : Bool
  deriving DecidableEq, Repr

/-- AddWithCarry(a, b, c) (R405). -/
def addWithCarry (a b : Word) (c : Bool) : AluOut :=
  let usum := a.toNat + b.toNat + c.toNat
  let result := BitVec.ofNat 32 usum
  { result := result
    carry := decide (2 ^ 32 ≤ usum)
    overflow := a.msb == b.msb && result.msb != a.msb }

/-- The flags of an arithmetic result (R406, SetFlags). -/
def arithFlags (p : Word) (o : AluOut) : Word :=
  withNZCV p o.result.msb (o.result == 0#32) o.carry o.overflow

/-- The flags of a logical result with carry c: V is unchanged (R406, SetFlags). -/
def logicFlags (p : Word) (r : Word) (c : Bool) : Word := withNZC p r.msb (r == 0#32) c

/-- The flags of a multiply or of a Thumb logical result: C and V are unchanged (R113). -/
def nzFlags (p : Word) (r : Word) : Word := withNZ p r.msb (r == 0#32)

/-- The flags of a 64-bit product (R453 to R456). -/
def nzFlags64 (p : Word) (r : DWord) : Word := withNZ p r.msb (r == 0#64)

end Sys2Proof.Machine
end

