-- ==== Sys2Proof/Machine/Memory.lean ====
section
/-! DEFINITION. Physical memory and the bus of spec/20_memory.md R201 to R203: bytes by physical address in one
canonical form, little-endian halfwords and words, and the probes. -/

namespace Sys2Proof.Machine

/-- The number of bytes of an access (R203). -/
def AccSize.bytes : AccSize → Nat
  | .byte => 1
  | .half => 2
  | .word => 4

/-- Align(v, n) of R9. -/
def AccSize.align : AccSize → Word → Word
  | .byte, a => a
  | .half, a => a &&& 0xFFFFFFFE#32
  | .word, a => a &&& 0xFFFFFFFC#32

/-- An address that is a multiple of the access size (R207). -/
def AccSize.aligned (n : AccSize) (a : Word) : Bool := n.align a == a

/-! ## Bytes -/

/-- The byte at an address: what is listed there, else Config.unlistedByte. -/
def Memory.readByte : Memory → Nat → Byte
  | [], _ => Config.unlistedByte
  | (b, x) :: rest, a => if b = a then x else Memory.readByte rest a

/-- A cell in front of a memory whose addresses all lie above it: listed unless it reads so unlisted. -/
def Memory.cons (a : Nat) (v : Byte) (m : Memory) : Memory :=
  if v = Config.unlistedByte then m else (a, v) :: m

/-- Store a byte, keeping the canonical form. -/
def Memory.writeByte : Memory → Nat → Byte → Memory
  | [], a, v => Memory.cons a v []
  | (b, x) :: rest, a, v =>
    if a < b then Memory.cons a v ((b, x) :: rest)
    else if a = b then Memory.cons a v rest
    else (b, x) :: Memory.writeByte rest a v

/-- Every address of a memory is at least lo, they rise strictly, each is a physical address (R200), and no
cell holds the value an unlisted address reads as. -/
def Memory.wfFrom : Nat → Memory → Bool
  | _, [] => true
  | lo, (a, x) :: rest =>
    decide (lo ≤ a) && decide (a < 2 ^ 32) && x != Config.unlistedByte && Memory.wfFrom (a + 1) rest

/-- The canonical form of a memory. -/
def Memory.wf (m : Memory) : Bool := Memory.wfFrom 0 m

/-! ## Halfwords and words (R202) -/

/-- read8, read16 or read32 of an aligned address, zero-extended to 32 bits (R201, R202, R204). -/
def Memory.read (m : Memory) (n : AccSize) (a : Word) : Word :=
  let b (k : Nat) : Word := (m.readByte (a.toNat + k)).setWidth 32 <<< (8 * k)
  match n with
  | .byte => b 0
  | .half => b 0 ||| b 1
  | .word => b 0 ||| b 1 ||| b 2 ||| b 3

/-- write8, write16 or write32 of an aligned address, from the low bits of v (R201, R202, R205). -/
def Memory.write (m : Memory) (n : AccSize) (a v : Word) : Memory :=
  let w (k : Nat) (m : Memory) : Memory := m.writeByte (a.toNat + k) (v.extractLsb' (8 * k) 8)
  match n with
  | .byte => w 0 m
  | .half => w 1 (w 0 m)
  | .word => w 3 (w 2 (w 1 (w 0 m)))

/-! ## The bus probes (R201) -/

/-- A hole that covers an access. -/
def BusHole.covers (h : BusHole) (n : AccSize) (a : Word) : Bool :=
  decide (h.first ≤ a.toNat) && decide (a.toNat ≤ h.last) && (h.size == none || h.size == some n)

/-- try_read (R201). -/
def tryRead (s : State) (n : AccSize) (a : Word) : Bool := !s.bus.any fun h => h.reads && h.covers n a

/-- try_write (R201). -/
def tryWrite (s : State) (n : AccSize) (a : Word) : Bool := !s.bus.any fun h => h.writes && h.covers n a

end Sys2Proof.Machine
end

