-- ==== Sys2Proof/Machine/Ops.lean ====
section
/-! DEFINITION. The named operations that every meaning is written over: running, stopping and raising
(spec/00_scope.md R10, R11; spec/60_exceptions.md R905), the banked registers (spec/10_state.md R102 to R105),
the PC writes (R109), the CPSR write (R111), taking an exception (spec/60_exceptions.md R910 to R916) and
returning from one (R921). -/

namespace Sys2Proof.Machine

/-! ## Running an instruction -/

/-- How an instruction ends before its rule's last line: by a raise, which keeps the state it raised in
(R901), or by a stop of the machine (R11). -/
inductive Stop where
  | raised (s : State)
  | fault (f : Fault)
  | refused (r : Refusal)
  deriving DecidableEq, Repr

/-- A piece of a rule's pseudocode: it reads and changes the state, and may end the instruction. -/
abbrev Act := StateT State (Except Stop)

/-- The outcome of an instruction's pseudocode: a raise is a next state with the exception pending (R905). -/
def runAct (m : Act Unit) (s : State) : Host.Outcome State Fault Refusal :=
  match m s with
  | .ok (_, s') => .next s'
  | .error (.raised s') => .next s'
  | .error (.fault f) => .fault f
  | .error (.refused r) => .refused r

/-- Read something of the state. -/
def look {α : Type} (f : State → α) : Act α := fun s => .ok (f s, s)

/-- Change the state. -/
def change (f : State → State) : Act Unit := fun s => .ok ((), f s)

/-- stop Fatal (R11). -/
def stopFatal {α : Type} (f : Fault) : Act α := fun _ => .error (.fault f)

/-- stop Unsupported (R11). -/
def stopUnsupported {α : Type} (why : UnsupportedReason) : Act α := fun _ => .error (.refused (.unsupported why))

/-- stop Unpredictable (R11). -/
def stopUnpredictable {α : Type} (why : UnpredictableReason) : Act α :=
  fun _ => .error (.refused (.unpredictable why))

/-- stop Unpredictable where a test holds. -/
def unpredictableIf (b : Bool) (why : UnpredictableReason) : Act Unit :=
  fun s => if b then .error (.refused (.unpredictable why)) else .ok ((), s)

/-- The should-be fields of a row (R306), tested after the condition has passed. -/
def shouldBe (asRequired : Bool) : Act Unit := unpredictableIf (!asRequired) .shouldBeField

/-- The first line of every conditional instruction: a failed condition makes it a no-op (R114). -/
def whenPassed (c : Cond) (body : Act Unit) : Act Unit :=
  fun s => if condPassed c s.cpsr then body s else .ok ((), s)

/-! ## The pending exception set (R140, R905 to R907) -/

/-- The slot of an exception. -/
def Pending.get (p : Pending) (k : ExcKind) : Option Reason :=
  match k with
  | .reset => p.reset
  | .undefinedInstruction => p.undefinedInstruction
  | .softwareInterrupt => p.softwareInterrupt
  | .prefetchAbort => p.prefetchAbort
  | .dataAbort => p.dataAbort
  | .irq => p.irq
  | .fiq => p.fiq

/-- The set with one slot replaced. -/
def Pending.set (p : Pending) (k : ExcKind) (v : Option Reason) : Pending :=
  match k with
  | .reset => { p with reset := v }
  | .undefinedInstruction => { p with undefinedInstruction := v }
  | .softwareInterrupt => { p with softwareInterrupt := v }
  | .prefetchAbort => { p with prefetchAbort := v }
  | .dataAbort => { p with dataAbort := v }
  | .irq => { p with irq := v }
  | .fiq => { p with fiq := v }

/-- The set slot of highest priority (R907). -/
def Pending.first (p : Pending) : Option ExcKind :=
  if p.reset.isSome then some .reset
  else if p.undefinedInstruction.isSome then some .undefinedInstruction
  else if p.softwareInterrupt.isSome then some .softwareInterrupt
  else if p.prefetchAbort.isSome then some .prefetchAbort
  else if p.dataAbort.isSome then some .dataAbort
  else if p.irq.isSome then some .irq
  else if p.fiq.isSome then some .fiq
  else none

/-- The state with exception k requested. -/
def State.request (s : State) (k : ExcKind) (why : Reason) : State :=
  { s with pending := s.pending.set k (some why) }

/-- raise K(info) (R905). -/
def raise {α : Type} (k : ExcKind) (why : Reason) : Act α := fun s =>
  if s.pending = Pending.empty then .error (.raised (s.request k why))
  else .error (.fault .raiseWhileOutstanding)

/-! ## Banked registers (R101 to R105) -/

/-- The bank with an SPSR that a mode uses; none for User and System (R101). -/
def Mode.bank : Mode → Option Bank
  | .usr => none
  | .fiq => some .fiq
  | .irq => some .irq
  | .svc => some .svc
  | .abt => some .abt
  | .und => some .und
  | .sys => none

/-- The mode an exception bank belongs to (R103). -/
def Bank.mode : Bank → Mode
  | .fiq => .fiq
  | .irq => .irq
  | .svc => .svc
  | .abt => .abt
  | .und => .und

/-- The stack pointer cell of a bank (R103). -/
def Bank.sp : Option Bank → PhysReg
  | none => .r13usr
  | some .fiq => .r13fiq
  | some .irq => .r13irq
  | some .svc => .r13svc
  | some .abt => .r13abt
  | some .und => .r13und

/-- The link register cell of a bank (R103). -/
def Bank.lr : Option Bank → PhysReg
  | none => .r14usr
  | some .fiq => .r14fiq
  | some .irq => .r14irq
  | some .svc => .r14svc
  | some .abt => .r14abt
  | some .und => .r14und

/-- The cell that a register number names in a mode (R103); none for the PC. -/
def Mode.cell (m : Mode) (n : RegNum) : Option PhysReg :=
  match n with
  | 0#4 => some .r0
  | 1#4 => some .r1
  | 2#4 => some .r2
  | 3#4 => some .r3
  | 4#4 => some .r4
  | 5#4 => some .r5
  | 6#4 => some .r6
  | 7#4 => some .r7
  | 8#4 => some (if m = .fiq then .r8fiq else .r8usr)
  | 9#4 => some (if m = .fiq then .r9fiq else .r9usr)
  | 10#4 => some (if m = .fiq then .r10fiq else .r10usr)
  | 11#4 => some (if m = .fiq then .r11fiq else .r11usr)
  | 12#4 => some (if m = .fiq then .r12fiq else .r12usr)
  | 13#4 => some (Bank.sp m.bank)
  | 14#4 => some (Bank.lr m.bank)
  | _ => none

/-- The content of a cell. -/
def Regs.get (r : Regs) (p : PhysReg) : Word :=
  match p with
  | .r0 => r.r0
  | .r1 => r.r1
  | .r2 => r.r2
  | .r3 => r.r3
  | .r4 => r.r4
  | .r5 => r.r5
  | .r6 => r.r6
  | .r7 => r.r7
  | .r8usr => r.r8usr
  | .r9usr => r.r9usr
  | .r10usr => r.r10usr
  | .r11usr => r.r11usr
  | .r12usr => r.r12usr
  | .r8fiq => r.r8fiq
  | .r9fiq => r.r9fiq
  | .r10fiq => r.r10fiq
  | .r11fiq => r.r11fiq
  | .r12fiq => r.r12fiq
  | .r13usr => r.r13usr
  | .r14usr => r.r14usr
  | .r13svc => r.r13svc
  | .r14svc => r.r14svc
  | .r13abt => r.r13abt
  | .r14abt => r.r14abt
  | .r13und => r.r13und
  | .r14und => r.r14und
  | .r13irq => r.r13irq
  | .r14irq => r.r14irq
  | .r13fiq => r.r13fiq
  | .r14fiq => r.r14fiq

/-- The cells with one replaced. -/
def Regs.set (r : Regs) (p : PhysReg) (v : Word) : Regs :=
  match p with
  | .r0 => { r with r0 := v }
  | .r1 => { r with r1 := v }
  | .r2 => { r with r2 := v }
  | .r3 => { r with r3 := v }
  | .r4 => { r with r4 := v }
  | .r5 => { r with r5 := v }
  | .r6 => { r with r6 := v }
  | .r7 => { r with r7 := v }
  | .r8usr => { r with r8usr := v }
  | .r9usr => { r with r9usr := v }
  | .r10usr => { r with r10usr := v }
  | .r11usr => { r with r11usr := v }
  | .r12usr => { r with r12usr := v }
  | .r8fiq => { r with r8fiq := v }
  | .r9fiq => { r with r9fiq := v }
  | .r10fiq => { r with r10fiq := v }
  | .r11fiq => { r with r11fiq := v }
  | .r12fiq => { r with r12fiq := v }
  | .r13usr => { r with r13usr := v }
  | .r14usr => { r with r14usr := v }
  | .r13svc => { r with r13svc := v }
  | .r14svc => { r with r14svc := v }
  | .r13abt => { r with r13abt := v }
  | .r14abt => { r with r14abt := v }
  | .r13und => { r with r13und := v }
  | .r14und => { r with r14und := v }
  | .r13irq => { r with r13irq := v }
  | .r14irq => { r with r14irq := v }
  | .r13fiq => { r with r13fiq := v }
  | .r14fiq => { r with r14fiq := v }

/-- The saved status register of a bank (R103). -/
def Spsrs.get (r : Spsrs) (b : Bank) : Word :=
  match b with
  | .fiq => r.fiq
  | .irq => r.irq
  | .svc => r.svc
  | .abt => r.abt
  | .und => r.und

/-- The saved status registers with one replaced. -/
def Spsrs.set (r : Spsrs) (b : Bank) (v : Word) : Spsrs :=
  match b with
  | .fiq => { r with fiq := v }
  | .irq => { r with irq := v }
  | .svc => { r with svc := v }
  | .abt => { r with abt := v }
  | .und => { r with und := v }

/-- The mode that selects the active bank (R104). A malformed CPSR mode field, which WriteCPSR never stores
(R111), selects the user bank: DESIGN CHOICE, log entry 5. -/
def State.mode (s : State) : Mode := (Mode.ofBits (psrM s.cpsr)).getD .usr

/-- InAPrivilegedMode (R10). -/
def State.privileged (s : State) : Bool := psrM s.cpsr != Mode.usr.bits

/-- What adding to the PC cell gives r15 as an operand (R107). -/
def State.pcOffset (s : State) : Word := if psrT s.cpsr then 4#32 else 8#32

/-- x[15] read as an operand (R107). -/
def State.pcOperand (s : State) : Word := s.pc + s.pcOffset

/-- x[n] (R10, R104, R107). -/
def State.reg (s : State) (n : RegNum) : Word :=
  match s.mode.cell n with
  | some p => s.regs.get p
  | none => s.pcOperand

/-- x[n] <- v for a register other than r15, which only the PC write functions write (R10). -/
def State.setReg (s : State) (n : RegNum) (v : Word) : State :=
  match s.mode.cell n with
  | some p => { s with regs := s.regs.set p v }
  | none => s

/-- xu[n]: the cell of the User bank, whatever the mode (R555). -/
def State.userReg (s : State) (n : RegNum) : Word :=
  match Mode.usr.cell n with
  | some p => s.regs.get p
  | none => s.pcOperand

/-- xu[n] <- v (R555). -/
def State.setUserReg (s : State) (n : RegNum) (v : Word) : State :=
  match Mode.usr.cell n with
  | some p => { s with regs := s.regs.set p v }
  | none => s

/-- x[n] in a rule. -/
def readReg (n : RegNum) : Act Word := look fun s => s.reg n

/-- x[n] <- v in a rule. -/
def writeReg (n : RegNum) (v : Word) : Act Unit := change fun s => s.setReg n v

/-- A low register's number (R341). -/
def lowReg (r : LowReg) : RegNum := r.setWidth 4

/-- A hi-register form's number H : field (R341). -/
def hiReg (h : Bool) (r : LowReg) : RegNum := BitVec.ofBool h ++ r

/-! ## Status registers (R105, R111, R112) -/

/-- CPSR flags written by SetFlags and the flag-setting rules: the mode is not among them (R406, R750). -/
def setCpsrFlags (f : Word → Word) : Act Unit := change fun s => { s with cpsr := f s.cpsr }

/-- WriteCPSR(v) (R111). -/
def writeCpsr (v : Word) : Act Unit := fun s =>
  match Mode.ofBits (psrM v) with
  | some _ => .ok ((), { s with cpsr := v })
  | none => .error (.refused (.unsupported .malformedMode))

/-- The bank whose SPSR is current; in User and System mode the access is a Fatal stop (R105). -/
def currentBank : Act Bank := fun s =>
  match s.mode.bank with
  | some b => .ok (b, s)
  | none => .error (.fault .spsrAccess)

/-! ## PC writes (R109) -/

/-- The state with the PC written and the jumped flag set. -/
def State.jump (s : State) (v : Word) : State := { s with pc := v, jumped := true }

/-- BranchWritePC(v) (R109). -/
def branchWritePC (v : Word) : Act Unit := change fun s => s.jump v

/-- BXWritePC(v) (R109). -/
def bxWritePC (v : Word) : Act Unit := fun s =>
  if v.getLsbD 0 then .ok ((), { s with cpsr := withT s.cpsr true }.jump (v &&& 0xFFFFFFFE#32))
  else if v.getLsbD 1 then .error (.refused (.unpredictable .bxToArm))
  else .ok ((), { s with cpsr := withT s.cpsr false }.jump v)

/-- LoadWritePC(v) (R109). -/
def loadWritePC (v : Word) : Act Unit := bxWritePC v

/-- ALUWritePC(v) (R109). -/
def aluWritePC (v : Word) : Act Unit := fun s =>
  if psrT s.cpsr then .ok ((), s.jump (v &&& 0xFFFFFFFE#32))
  else if v.extractLsb' 0 2 = 0b00#2 then .ok ((), s.jump v)
  else .error (.refused (.unpredictable .armPcWrite))

/-! ## Taking an exception (R910 to R916) -/

/-- The bank, and so the mode, that an exception enters (R911). -/
def ExcKind.bank : ExcKind → Bank
  | .reset => .svc
  | .undefinedInstruction => .und
  | .softwareInterrupt => .svc
  | .prefetchAbort => .abt
  | .dataAbort => .abt
  | .irq => .irq
  | .fiq => .fiq

/-- VectorOffset(k) (R912). -/
def ExcKind.vectorOffset : ExcKind → Word
  | .reset => 0x00#32
  | .undefinedInstruction => 0x04#32
  | .softwareInterrupt => 0x08#32
  | .prefetchAbort => 0x0C#32
  | .dataAbort => 0x10#32
  | .irq => 0x18#32
  | .fiq => 0x1C#32

/-- VectorBase(): control V selects the high vectors (R912). -/
def State.vectorBase (s : State) : Word := if s.control.getLsbD 13 then 0xFFFF0000#32 else 0x00000000#32

/-- LROffset(k, T) (R913); none for reset, which writes no R14 (R916). -/
def State.lrOffset (s : State) (k : ExcKind) : Option Word :=
  match k with
  | .reset => none
  | .undefinedInstruction => some (if psrT s.cpsr then 2#32 else 4#32)
  | .softwareInterrupt => some (if psrT s.cpsr then 2#32 else 4#32)
  | .prefetchAbort => some 4#32
  | .dataAbort => some 8#32
  | .irq => some s.irqLrOffset.toWord
  | .fiq => some s.irqLrOffset.toWord

/-- Reset and FIQ mask FIQ too (R914). -/
def ExcKind.masksFiq : ExcKind → Bool
  | .reset => true
  | .undefinedInstruction => false
  | .softwareInterrupt => false
  | .prefetchAbort => false
  | .dataAbort => false
  | .irq => false
  | .fiq => true

/-- The CPSR in force in the handler (R910, R911, R914): the exception's mode, T clear, I set, and F set by
reset and FIQ only; every other bit is carried over. -/
def entryCpsr (k : ExcKind) (old : Word) : Word :=
  let new := setBit (withT (withM old k.bank.mode) false) 7 true
  if k.masksFiq then setBit new 6 true else new

/-- EnterException(k) (R910): the old CPSR goes to the entered bank's SPSR, the return address to its R14
(not on reset), the CPSR is the handler's, and the PC is the vector; the jumped flag is not set. -/
def State.enterException (s : State) (k : ExcKind) : State :=
  { s with
    cpsr := entryCpsr k s.cpsr
    spsr := s.spsr.set k.bank s.cpsr
    regs :=
      match s.lrOffset k with
      | some off => s.regs.set (Bank.lr (some k.bank)) (s.pc + off)
      | none => s.regs
    pc := s.vectorBase + k.vectorOffset }

/-! ## Returning from an exception (R921) -/

/-- CPSR <- SPSR_current (R406, R556): a Fatal stop in User and System mode (R105), Unsupported on a malformed
mode (R111). -/
def restoreCpsr : Act Unit := do
  let b ← currentBank
  let v ← look fun s => s.spsr.get b
  writeCpsr v

/-- The return that a data-processing instruction with S = 1 and Rd = 15 and LDM(3) make: the SPSR is restored,
then the PC is written in the restored instruction set (R921). -/
def returnFromException (v : Word) : Act Unit := do
  restoreCpsr
  aluWritePC v

end Sys2Proof.Machine
end

