-- ==== Sys2Proof/Machine/Mmu.lean ====
section
/-! DEFINITION. Address translation and the three access primitives (spec/20_memory.md R204 to R226). -/

namespace Sys2Proof.Machine

/-- The fault status codes (R225). -/
inductive FaultStatus where
  | align | extL1 | extL2 | transSection | transPage | domainSection | domainPage | permSection | permPage
  deriving DecidableEq, Repr

/-- FSR[3:0] of a fault (R225). -/
def FaultStatus.bits : FaultStatus → BitVec 4
  | .align => 0b0001#4
  | .extL1 => 0b1100#4
  | .extL2 => 0b1110#4
  | .transSection => 0b0101#4
  | .transPage => 0b0111#4
  | .domainSection => 0b1001#4
  | .domainPage => 0b1011#4
  | .permSection => 0b1101#4
  | .permPage => 0b1111#4

/-- What a translation answers (R210): a physical address, an MMU fault with its domain (none where R225 has
UNKNOWN), or a stop. -/
inductive Translation where
  | ok (pa : Word)
  | fault (st : FaultStatus) (dom : Option (BitVec 4))
  | refused (r : Refusal)
  deriving DecidableEq, Repr

/-! ## Control register flags (R123, R132) -/

/-- Control M: the MMU is enabled. -/
def State.mmuOn (s : State) : Bool := s.control.getLsbD 0
/-- Control A: alignment is checked. -/
def State.alignCheck (s : State) : Bool := s.control.getLsbD 1
/-- Control S: system protection. -/
def State.systemProtect (s : State) : Bool := s.control.getLsbD 8
/-- Control R: ROM protection. -/
def State.romProtect (s : State) : Bool := s.control.getLsbD 9

/-! ## Domains and permissions (R222, R223) -/

/-- What a domain's control says (R222). -/
inductive DomainAccess where
  | noAccess | client | manager
  deriving DecidableEq, Repr

/-- CheckDomain: DACR[2d+1:2d]; the reserved value faults as no access does (R126, R222). -/
def State.domainAccess (s : State) (dom : BitVec 4) : DomainAccess :=
  match s.dacr.extractLsb' (2 * dom.toNat) 2 with
  | 0b01#2 => .client
  | 0b11#2 => .manager
  | _ => .noAccess

/-- CheckAP (R223): whether a client access is permitted; none for AP = 00 with S = R = 1, which stops. -/
def State.permits (s : State) (ap : BitVec 2) (priv isRead : Bool) : Option Bool :=
  match ap with
  | 0b00#2 =>
    match s.systemProtect, s.romProtect with
    | false, false => some false
    | true, false => some (priv && isRead)
    | false, true => some isRead
    | true, true => none
  | 0b01#2 => some priv
  | 0b10#2 => some (priv || isRead)
  | _ => some true

/-- The domain check and then the permission check of a section or page (R215, R221). -/
def State.checkAccess (s : State) (dom : BitVec 4) (ap : BitVec 2) (priv isRead : Bool)
    (domFault permFault : FaultStatus) (pa : Word) : Translation :=
  match s.domainAccess dom with
  | .noAccess => .fault domFault (some dom)
  | .manager => .ok pa
  | .client =>
    match s.permits ap priv isRead with
    | some true => .ok pa
    | some false => .fault permFault (some dom)
    | none => .refused (.unpredictable .reservedPermission)

/-! ## The walk (R210 to R221) -/

/-- The high bits of a base, from bit k up, joined with the address bits below k (R215, R218 to R220). -/
def joinAddress (base va : Word) (k : Nat) : Word := base >>> k <<< k ||| va <<< (32 - k) >>> (32 - k)

/-- TTB[31:14] : va[31:20] : 00 (R213). -/
def l1Address (ttb va : Word) : Word := ttb >>> 14 <<< 14 ||| va >>> 20 <<< 2

/-- d1[31:10] : va[19:12] : 00, coarse (R216). -/
def coarseAddress (d1 va : Word) : Word := d1 >>> 10 <<< 10 ||| (va.extractLsb' 12 8).setWidth 32 <<< 2

/-- d1[31:12] : va[19:10] : 00, fine (R216). -/
def fineAddress (d1 va : Word) : Word := d1 >>> 12 <<< 12 ||| (va.extractLsb' 10 10).setWidth 32 <<< 2

/-- The access-permission sub-field k of a large- or small-page descriptor: d2[5+2k:4+2k] (R218, R219). -/
def subPageAp (d2 : Word) (k : BitVec 2) : BitVec 2 := d2.extractLsb' (4 + 2 * k.toNat) 2

/-- The second level of the walk (R216 to R221): fine selects the table kind of the first-level descriptor. -/
def State.walkPage (s : State) (va d1 : Word) (fine priv isRead : Bool) : Translation :=
  let dom := d1.extractLsb' 5 4
  let l2 := if fine then fineAddress d1 va else coarseAddress d1 va
  if !tryRead s .word l2 then .fault .extL2 (some dom)
  else
    let d2 := s.mem.read .word l2
    let check (ap : BitVec 2) (pa : Word) := s.checkAccess dom ap priv isRead .domainPage .permPage pa
    match d2.extractLsb' 0 2 with
    | 0b00#2 => .fault .transPage (some dom)
    | 0b01#2 =>
      if fine then .refused (.unsupported .largePageInFineTable)
      else check (subPageAp d2 (va.extractLsb' 14 2)) (joinAddress d2 va 16)
    | 0b10#2 => check (subPageAp d2 (va.extractLsb' 10 2)) (joinAddress d2 va 12)
    | _ =>
      if fine then check (d2.extractLsb' 4 2) (joinAddress d2 va 10)
      else .refused (.unsupported .tinyPageInCoarseTable)

/-- The walk from the first-level descriptor on (R213 to R221). -/
def State.walk (s : State) (va : Word) (priv isRead : Bool) : Translation :=
  let l1 := l1Address s.ttb va
  if !tryRead s .word l1 then .fault .extL1 none
  else
    let d1 := s.mem.read .word l1
    match d1.extractLsb' 0 2 with
    | 0b00#2 => .fault .transSection none
    | 0b10#2 =>
      s.checkAccess (d1.extractLsb' 5 4) (d1.extractLsb' 10 2) priv isRead .domainSection .permSection
        (joinAddress d1 va 20)
    | 0b01#2 => s.walkPage va d1 false priv isRead
    | _ => s.walkPage va d1 true priv isRead

/-- Translate without its effects (R210 to R212): the identity with the MMU off, the alignment check before any
table read, then the walk. -/
def State.translation (s : State) (va : Word) (n : AccSize) (priv isRead : Bool) : Translation :=
  if !s.mmuOn then .ok va
  else if s.alignCheck && !n.aligned va then .fault .align none
  else s.walk va priv isRead

/-! ## Faults (R224) -/

/-- The state with a fault recorded: FSR, FAR and the sticky flag; an UNKNOWN domain is a free draw (R224). -/
def State.recordFault (s : State) (va : Word) (st : FaultStatus) (dom : Option (BitVec 4)) : State :=
  match dom with
  | some d => { s with fsr := (d ++ st.bits).setWidth 32, far := va, faultFlag := true }
  | none =>
    { s with
      fsr := (Config.unknownDomain s.draws ++ st.bits).setWidth 32
      far := va
      faultFlag := true
      draws := s.draws + 1 }

/-- Fault(code, dom) (R224). -/
def mmuFault {α : Type} (va : Word) (isFetch : Bool) (st : FaultStatus) (dom : Option (BitVec 4)) : Act α :=
  fun s => raise (if isFetch then .prefetchAbort else .dataAbort) .mmuFault (s.recordFault va st dom)

/-- Translate(va, size, is_fetch, priv, is_read) (R210). -/
def translateVa (va : Word) (n : AccSize) (isFetch priv isRead : Bool) : Act Word := fun s =>
  if s.faultFlag then .error (.fault .translateWithFaultFlag)
  else
    match s.translation va n priv isRead with
    | .ok pa => .ok (pa, s)
    | .fault st dom => mmuFault va isFetch st dom s
    | .refused r => .error (.refused r)

/-! ## Access primitives (R204 to R206) -/

/-- A bus probe: a failure raises, without writing FSR or FAR (R204, R205). -/
def probe (ok : State → Bool) (k : ExcKind) (why : Reason) : Act Unit :=
  fun s => if ok s then .ok ((), s) else raise k why s

/-- MemRead(va, n, priv) (R204): the aligned unit that contains va, zero-extended. -/
def memRead (va : Word) (n : AccSize) (priv : Bool) : Act Word := do
  let pa ← translateVa va n false priv true
  probe (fun s => tryRead s n (n.align pa)) .dataAbort .busRead
  look fun s => s.mem.read n (n.align pa)

/-- The state with an aligned unit of memory written (R201). -/
def State.store (s : State) (n : AccSize) (pa v : Word) : State := { s with mem := s.mem.write n pa v }

/-- MemWrite(va, n, v, priv) (R205). -/
def memWrite (va : Word) (n : AccSize) (v : Word) (priv : Bool) : Act Unit := do
  let pa ← translateVa va n false priv false
  probe (fun s => tryWrite s n (n.align pa)) .dataAbort .busWrite
  change fun s => s.store n (n.align pa) v

/-- FetchRead(va, n) (R206). -/
def fetchRead (va : Word) (n : AccSize) : Act Word := do
  let priv ← look State.privileged
  let pa ← translateVa va n true priv true
  probe (fun s => tryRead s n pa) .prefetchAbort .busFetch
  look fun s => s.mem.read n pa

end Sys2Proof.Machine
end

