-- ==== Sys2Proof/Machine/Operands.lean ====
section
/-! DEFINITION. The operand forms: the shifter operand (spec/40_arm_data_processing.md R400 to R404) and addressing
modes 2, 3 and 4 (spec/42_arm_load_store.md R500 to R502, R513; spec/43_arm_block_transfer.md R550, R551). -/

namespace Sys2Proof.Machine

/-! ## Shifts -/

/-- A shifted value and its carry-out (R400). -/
structure Shifted where
  value : Word
  carry : Bool
  deriving DecidableEq, Repr

/-- ROR(v, n) (R9). -/
def ror (v : Word) (n : Nat) : Word := v.rotateRight n

/-- Thirty-two copies of the sign bit (R402). -/
def signFill (v : Word) : Word := if v.msb then 0xFFFFFFFF#32 else 0#32

/-- The immediate shift of a value with amount amt, carry flag c (R402). -/
def shiftImm (kind : ShiftKind) (amt : BitVec 5) (v : Word) (c : Bool) : Shifted :=
  let n := amt.toNat
  match kind with
  | .lsl => if n = 0 then ⟨v, c⟩ else ⟨v <<< n, v.getLsbD (32 - n)⟩
  | .lsr => if n = 0 then ⟨0#32, v.msb⟩ else ⟨v >>> n, v.getLsbD (n - 1)⟩
  | .asr => if n = 0 then ⟨signFill v, v.msb⟩ else ⟨v.sshiftRight n, v.getLsbD (n - 1)⟩
  | .ror =>
    if n = 0 then ⟨(BitVec.ofBool c).setWidth 32 <<< 31 ||| v >>> 1, v.getLsbD 0⟩
    else ⟨ror v n, v.getLsbD (n - 1)⟩

/-- The register shift of a value by the amount s, carry flag c (R403). -/
def shiftReg (kind : ShiftKind) (s : Byte) (v : Word) (c : Bool) : Shifted :=
  let n := s.toNat
  if n = 0 then ⟨v, c⟩
  else
    match kind with
    | .lsl =>
      if n < 32 then ⟨v <<< n, v.getLsbD (32 - n)⟩
      else if n = 32 then ⟨0#32, v.getLsbD 0⟩
      else ⟨0#32, false⟩
    | .lsr =>
      if n < 32 then ⟨v >>> n, v.getLsbD (n - 1)⟩
      else if n = 32 then ⟨0#32, v.msb⟩
      else ⟨0#32, false⟩
    | .asr => if n < 32 then ⟨v.sshiftRight n, v.getLsbD (n - 1)⟩ else ⟨signFill v, v.msb⟩
    | .ror => if n % 32 = 0 then ⟨v, v.msb⟩ else ⟨ror v (n % 32), v.getLsbD (n % 32 - 1)⟩

/-- The rotated immediate's value (R401). -/
def rotatedImm (rot : BitVec 4) (imm8 : BitVec 8) : Word := ror (imm8.setWidth 32) (2 * rot.toNat)

/-! ## Addressing mode 1 (R400 to R404) -/

/-- ShifterOperand(w) (R400). -/
def State.shifterOperand (s : State) (op2 : Operand2) : Shifted :=
  match op2 with
  | .immShift rm kind amt => shiftImm kind amt (s.reg rm) (psrC s.cpsr)
  | .regShift rm kind rs => shiftReg kind ((s.reg rs).extractLsb' 0 8) (s.reg rm) (psrC s.cpsr)
  | .imm rot imm8 =>
    let v := rotatedImm rot imm8
    ⟨v, if rot = 0#4 then psrC s.cpsr else v.msb⟩

/-- r15 among the registers of a register-shift form (R403). -/
def regShiftUsesPc (rn rd : RegNum) (op2 : Operand2) : Bool :=
  match op2 with
  | .immShift _ _ _ => false
  | .regShift rm _ rs => rd == 15#4 || rn == 15#4 || rm == 15#4 || rs == 15#4
  | .imm _ _ => false

/-! ## Addressing modes 2 and 3 -/

/-- A transfer address and a write-back value, or none (R501). -/
structure Address where
  ea : Word
  writeBack : Option Word
  deriving DecidableEq, Repr

/-- base + off or base - off (R501). -/
def offsetAddress (u : Bool) (base off : Word) : Word := if u then base + off else base - off

/-- Mode2Offset(w) for an offset register other than r15 (R500). -/
def State.mode2Offset (s : State) (off : Offset2) : Word :=
  match off with
  | .imm offset12 => offset12.setWidth 32
  | .reg rm kind amt => (shiftImm kind amt (s.reg rm) (psrC s.cpsr)).value

/-- r15 as a mode-2 offset register (R500). -/
def offset2UsesPc : Offset2 → Bool
  | .imm _ => false
  | .reg rm _ _ => rm == 15#4

/-- Mode2Address(w) (R501). -/
def State.mode2Address (s : State) (u : Bool) (ix : Indexing) (rn : RegNum) (off : Offset2) : Address :=
  let base := s.reg rn
  let ea := offsetAddress u base (s.mode2Offset off)
  match ix with
  | .offset => ⟨ea, none⟩
  | .preIndexed => ⟨ea, some ea⟩
  | .postIndexed => ⟨base, some ea⟩

/-- Write-back with Rn = 15 or Rn = Rd (R502). -/
def mode2Restricted (ix : Indexing) (rn rd : RegNum) : Bool := ix != .offset && (rn == 15#4 || rn == rd)

/-- The offset of addressing mode 3 for an offset register other than r15 (R513). -/
def State.mode3Offset (s : State) (off : Offset3) : Word :=
  match off with
  | .imm imm8 => imm8.setWidth 32
  | .reg _ rm => s.reg rm

/-- r15 as a mode-3 offset register (R513). -/
def offset3UsesPc : Offset3 → Bool
  | .imm _ => false
  | .reg _ rm => rm == 15#4

/-- The should-be-zero field of the register form of addressing mode 3 (R306). -/
def offset3SbOk : Offset3 → Bool
  | .imm _ => true
  | .reg sb _ => sb == 0#4

/-- The offset register of a mode-3 form is one of a register pair (R518). -/
def offset3InPair (rd : RegNum) : Offset3 → Bool
  | .imm _ => false
  | .reg _ rm => rm == rd || rm == rd + 1#4

/-- Mode3Address(w) for P, W other than P = 0 with W = 1 (R513). -/
def State.mode3Address (s : State) (p u w : Bool) (rn : RegNum) (off : Offset3) : Address :=
  let base := s.reg rn
  let ea := offsetAddress u base (s.mode3Offset off)
  if p then ⟨ea, if w then some ea else none⟩ else ⟨base, some ea⟩

/-- P = 0 with W = 1, and write-back with Rn = 15 or Rn = Rd (R513). -/
def mode3Restricted (p w : Bool) (rn rd : RegNum) : Bool :=
  (!p && w) || ((!p || w) && (rn == 15#4 || rn == rd))

/-- Write-back with Rn the second register of a doubleword pair (R513). -/
def pairWriteBack (p w : Bool) (rn rd : RegNum) : Bool := (!p || w) && rn == rd + 1#4

/-- The base register's write-back, made after every access has succeeded (R501). -/
def writeBackBase (rn : RegNum) (wb : Option Word) : Act Unit :=
  match wb with
  | none => pure ()
  | some v => writeReg rn v

/-! ## Addressing mode 4 (R550, R551) -/

/-- The registers of a list, ascending (R550). -/
def listRegs (list : BitVec 16) : List RegNum :=
  ((List.range 16).filter fun i => list.getLsbD i).map fun i => BitVec.ofNat 4 i

/-- Four bytes for each register of a list (R550). -/
def listBytes (list : BitVec 16) : Word := BitVec.ofNat 32 (4 * (listRegs list).length)

/-- The start address (R550). -/
def blockStart (p u : Bool) (b : Word) (bytes : Word) : Word :=
  match u, p with
  | true, false => b
  | true, true => b + 4#32
  | false, false => b - bytes + 4#32
  | false, true => b - bytes

/-- The write-back value (R550). -/
def blockWriteBack (u : Bool) (b : Word) (bytes : Word) : Word := if u then b + bytes else b - bytes

/-- The lowest register of a list (R551). -/
def isLowest (rn : RegNum) (list : BitVec 16) : Bool := (listRegs list).head? == some rn

/-- The restrictions on a load multiple (R551). -/
def loadListRestricted (w : Bool) (rn : RegNum) (list : BitVec 16) : Bool :=
  list == 0#16 || rn == 15#4 || (w && list.getLsbD rn.toNat)

/-- The restrictions on a store multiple (R551). -/
def storeListRestricted (w : Bool) (rn : RegNum) (list : BitVec 16) : Bool :=
  list == 0#16 || rn == 15#4 || (w && list.getLsbD rn.toNat && !isLowest rn list)

end Sys2Proof.Machine
end

