-- ==== Sys2Proof/Machine/BlockTransfer.lean ====
section
/-! DEFINITION. The ARM loads and stores of register lists (spec/43_arm_block_transfer.md R550 to R558), over list
transfers that the Thumb stack and multiple transfers share. -/

namespace Sys2Proof.Machine

/-- The words of a list of registers, read at ascending addresses; nothing is written (R552). -/
def loadList (priv : Bool) : List RegNum → Word → Act (List (RegNum × Word))
  | [], _ => pure []
  | r :: rs, a => do
    let v ← memRead a .word priv
    let vs ← loadList priv rs (a + 4#32)
    pure ((r, v) :: vs)

/-- The words of a list of registers, stored at ascending addresses; an abort keeps the words stored before it
(R552). -/
def storeList (value : State → RegNum → Word) (priv : Bool) : List RegNum → Word → Act Unit
  | [], _ => pure ()
  | r :: rs, a => do
    let v ← look fun s => value s r
    memWrite a .word v priv
    storeList value priv rs (a + 4#32)

/-- x[i] <- v_i for each loaded register other than the PC (R553). -/
def State.setRegs (s : State) (vs : List (RegNum × Word)) : State :=
  vs.foldl (fun t rv => if rv.1 = 15#4 then t else t.setReg rv.1 rv.2) s

/-- xu[i] <- v_i for each loaded register (R554). -/
def State.setUserRegs (s : State) (vs : List (RegNum × Word)) : State :=
  vs.foldl (fun t rv => t.setUserReg rv.1 rv.2) s

/-- The word loaded for the PC, where the list has it (R553). -/
def loadedPc (vs : List (RegNum × Word)) : Option Word := vs.lookup 15#4

/-- LoadWritePC of the PC's word, where the list has it (R553). -/
def writeLoadedPc (v : Option Word) : Act Unit :=
  match v with
  | none => pure ()
  | some v => loadWritePC v

/-- LDM(1) (R553): base, then registers, then the PC. -/
def execArmLdm1 (c : Cond) (p u w : Bool) (rn : RegNum) (list : BitVec 16) (s : State) :
    Host.Outcome State Fault Refusal :=
  runAct
    (whenPassed c do
      unpredictableIf (loadListRestricted w rn list) .blockList
      let b ← readReg rn
      let priv ← look State.privileged
      let vs ← loadList priv (listRegs list) (blockStart p u b (listBytes list))
      writeBackBase rn (if w then some (blockWriteBack u b (listBytes list)) else none)
      change fun s => s.setRegs vs
      writeLoadedPc (loadedPc vs))
    s

/-- LDM(2) (R554): the user bank's registers. -/
def execArmLdm2 (c : Cond) (p u w : Bool) (rn : RegNum) (list : BitVec 15) (s : State) :
    Host.Outcome State Fault Refusal :=
  runAct
    (whenPassed c do
      unpredictableIf w .userBankWriteBack
      unpredictableIf (loadListRestricted w rn (list.setWidth 16)) .blockList
      let b ← readReg rn
      let priv ← look State.privileged
      let vs ← loadList priv (listRegs (list.setWidth 16)) (blockStart p u b (listBytes (list.setWidth 16)))
      change fun s => s.setUserRegs vs)
    s

/-- The list of LDM(3): r15 and the fifteen bits of its list (R556). -/
def withPc (list : BitVec 15) : BitVec 16 := list.setWidth 16 ||| 0x8000#16

/-- LDM(3) (R556): the base and the registers are written in the current bank, then the SPSR is restored and the
PC is written in the restored instruction set. -/
def execArmLdm3 (c : Cond) (p u w : Bool) (rn : RegNum) (list : BitVec 15) (s : State) :
    Host.Outcome State Fault Refusal :=
  runAct
    (whenPassed c do
      let _ ← currentBank
      unpredictableIf (loadListRestricted w rn (withPc list)) .blockList
      let b ← readReg rn
      let priv ← look State.privileged
      let vs ← loadList priv (listRegs (withPc list)) (blockStart p u b (listBytes (withPc list)))
      writeBackBase rn (if w then some (blockWriteBack u b (listBytes (withPc list))) else none)
      change fun s => s.setRegs vs
      match loadedPc vs with
      | some v => returnFromException v
      | none => pure ())
    s

/-- STM(1) (R557): the base stores its original value, and is written back after the last transfer. -/
def execArmStm1 (c : Cond) (p u w : Bool) (rn : RegNum) (list : BitVec 16) (s : State) :
    Host.Outcome State Fault Refusal :=
  runAct
    (whenPassed c do
      unpredictableIf (storeListRestricted w rn list) .blockList
      let b ← readReg rn
      let priv ← look State.privileged
      storeList State.reg priv (listRegs list) (blockStart p u b (listBytes list))
      writeBackBase rn (if w then some (blockWriteBack u b (listBytes list)) else none))
    s

/-- STM(2) (R558): the user bank's registers; r15 stores raw_pc + 8. -/
def execArmStm2 (c : Cond) (p u w : Bool) (rn : RegNum) (list : BitVec 16) (s : State) :
    Host.Outcome State Fault Refusal :=
  runAct
    (whenPassed c do
      unpredictableIf w .userBankWriteBack
      unpredictableIf (storeListRestricted w rn list) .blockList
      let b ← readReg rn
      let priv ← look State.privileged
      storeList State.userReg priv (listRegs list) (blockStart p u b (listBytes list)))
    s

end Sys2Proof.Machine
end

