-- ==== Sys2Proof/Machine/Branch.lean ====
section
/-! DEFINITION. The ARM branches (spec/44_arm_branch.md R600 to R605). -/

namespace Sys2Proof.Machine

/-- raw_pc + 8 + sext_32(imm24 : 00) (R600). -/
def State.armTarget (s : State) (imm24 : BitVec 24) : Word := s.pc + 8#32 + imm24.signExtend 32 <<< 2

/-- The link of an ARM branch: raw_pc + 4 (R605). -/
def State.armLink (s : State) : Word := s.pc + 4#32

/-- B (R600). -/
def execArmB (c : Cond) (imm24 : BitVec 24) (s : State) : Host.Outcome State Fault Refusal :=
  runAct
    (whenPassed c do
      let target ← look fun s => s.armTarget imm24
      branchWritePC target)
    s

/-- BL (R601). -/
def execArmBl (c : Cond) (imm24 : BitVec 24) (s : State) : Host.Outcome State Fault Refusal :=
  runAct
    (whenPassed c do
      let target ← look fun s => s.armTarget imm24
      let link ← look State.armLink
      writeReg 14#4 link
      branchWritePC target)
    s

/-- BX (R602). -/
def execArmBx (c : Cond) (sb : BitVec 12) (rm : RegNum) (s : State) : Host.Outcome State Fault Refusal :=
  runAct
    (whenPassed c do
      shouldBe (sb == 0xFFF#12)
      let v ← readReg rm
      bxWritePC v)
    s

/-- BLX(1) (R603): unconditional, to Thumb state; H adds 2 to the target. -/
def execArmBlxImm (h : Bool) (imm24 : BitVec 24) (s : State) : Host.Outcome State Fault Refusal :=
  runAct
    (do
      let target ← look fun s => s.armTarget imm24 + (if h then 2#32 else 0#32)
      let link ← look State.armLink
      writeReg 14#4 link
      change fun s => { s with cpsr := withT s.cpsr true }
      branchWritePC target)
    s

/-- BLX(2) (R604): the operand is read before the link is written. -/
def execArmBlxReg (c : Cond) (sb : BitVec 12) (rm : RegNum) (s : State) : Host.Outcome State Fault Refusal :=
  runAct
    (whenPassed c do
      shouldBe (sb == 0xFFF#12)
      unpredictableIf (rm == 15#4) .blxPc
      let target ← readReg rm
      let link ← look State.armLink
      writeReg 14#4 link
      bxWritePC target)
    s

end Sys2Proof.Machine
end

