-- ==== Sys2Proof/Machine/Coprocessor.lean ====
section
/-! DEFINITION. The coprocessor instructions and the CP15 registers (spec/46_coprocessor.md R700 to R713;
spec/10_state.md R120 to R131). -/

namespace Sys2Proof.Machine

/-- CP15's registers and operations (R121 to R131, R703). -/
inductive Cp15Reg where
  | midr | ctr | control | ttb | dacr | fsr | far
  /-- Wait for interrupt (R712). -/
  | waitForInterrupt
  /-- The write-only c7 cache and buffer operations (R129). -/
  | cacheOperation
  /-- The read-only test-and-clean operations (R129). -/
  | testClean
  /-- The write-only c8 operations (R130). -/
  | tlbOperation
  /-- The process ID (R131). -/
  | fcsePid
  deriving DecidableEq, Repr

/-- The composite id CRn:opcode1:CRm:opcode2, a nibble each (R120, R701). -/
def cp15Id (crn : BitVec 4) (op1 : BitVec 3) (crm : BitVec 4) (op2 : BitVec 3) : BitVec 16 :=
  crn.setWidth 16 <<< 12 ||| op1.setWidth 16 <<< 8 ||| crm.setWidth 16 <<< 4 ||| op2.setWidth 16

/-- What a composite id names; none for an invalid one (R120 to R131). -/
def cp15Reg (id : BitVec 16) : Option Cp15Reg :=
  match id with
  | 0x0000#16 => some .midr
  | 0x0001#16 => some .ctr
  | 0x1000#16 => some .control
  | 0x2000#16 => some .ttb
  | 0x3000#16 => some .dacr
  | 0x5000#16 => some .fsr
  | 0x6000#16 => some .far
  | 0x7004#16 => some .waitForInterrupt
  | 0x7050#16 => some .cacheOperation
  | 0x7051#16 => some .cacheOperation
  | 0x7052#16 => some .cacheOperation
  | 0x7054#16 => some .cacheOperation
  | 0x7056#16 => some .cacheOperation
  | 0x7060#16 => some .cacheOperation
  | 0x7061#16 => some .cacheOperation
  | 0x7062#16 => some .cacheOperation
  | 0x7070#16 => some .cacheOperation
  | 0x70A1#16 => some .cacheOperation
  | 0x70A2#16 => some .cacheOperation
  | 0x70A4#16 => some .cacheOperation
  | 0x70D1#16 => some .cacheOperation
  | 0x70E1#16 => some .cacheOperation
  | 0x70E2#16 => some .cacheOperation
  | 0x70A3#16 => some .testClean
  | 0x70E3#16 => some .testClean
  | 0x8050#16 => some .tlbOperation
  | 0x8051#16 => some .tlbOperation
  | 0x8060#16 => some .tlbOperation
  | 0x8061#16 => some .tlbOperation
  | 0x8070#16 => some .tlbOperation
  | 0x8071#16 => some .tlbOperation
  | 0xD000#16 => some .fcsePid
  | _ => none

/-- The control register after an MCR of v: bits 0 to 3 and 8 to 14 stored, [6:4] read 111, the rest 0 (R123). -/
def controlWritten (v : Word) : Word := (v &&& 0x00007F0F#32) ||| 0x00000070#32

/-- CP15Read(id) (R703). -/
def cp15Read (id : BitVec 16) : Act Word :=
  match cp15Reg id with
  | none => stopUnsupported .invalidCp15Id
  | some .midr => look fun s => s.midr
  | some .ctr => look fun s => s.ctr
  | some .control => look fun s => s.control
  | some .ttb => look fun s => s.ttb
  | some .dacr => look fun s => s.dacr
  | some .fsr => look fun s => s.fsr
  | some .far => look fun s => s.far
  | some .waitForInterrupt => stopUnsupported .invalidCp15Access
  | some .cacheOperation => stopUnsupported .invalidCp15Access
  | some .testClean => pure 0x40000000#32
  | some .tlbOperation => stopUnsupported .invalidCp15Access
  | some .fcsePid => pure 0#32

/-- CP15Write(id, v) (R703, R712). -/
def cp15Write (id : BitVec 16) (v : Word) : Act Unit :=
  match cp15Reg id with
  | none => stopUnsupported .invalidCp15Id
  | some .midr => pure ()
  | some .ctr => pure ()
  | some .control =>
    if v.getLsbD 7 then stopUnsupported .bigEndian
    else if v.getLsbD 15 then stopUnsupported .armv4PcLoad
    else change fun s => { s with control := controlWritten v }
  | some .ttb => change fun s => { s with ttb := v }
  | some .dacr => change fun s => { s with dacr := v }
  | some .fsr => change fun s => { s with fsr := v }
  | some .far => change fun s => { s with far := v }
  | some .waitForInterrupt => change fun s => { s with waiting := true }
  | some .cacheOperation => pure ()
  | some .testClean => stopUnsupported .invalidCp15Access
  | some .tlbOperation => pure ()
  | some .fcsePid => if v = 0#32 then pure () else stopUnsupported .fcseRelocation

/-- The two tests every coprocessor instruction makes before its own effect: the coprocessor number (R700), then
the mode (R702). -/
def coprocessorAccess (cp : BitVec 4) : Act Unit := fun s =>
  if cp = 15#4 then
    if s.privileged then .ok ((), s)
    else raise .undefinedInstruction .cp15InUserMode s
  else
    match s.absentCp with
    | .unsupported => .error (.refused (.unsupported .unknownCoprocessor))
    | .undefined => raise .undefinedInstruction .absentCoprocessor s

/-- The forms that CP15 does not have (R706 to R710). -/
def refuseToCp15 (cp : BitVec 4) : Act Unit := do
  coprocessorAccess cp
  stopUnsupported .formToCp15

/-- The N, Z, C and V bits copied from a value (R711). -/
def copyFlags (v p : Word) : Word := withNZCV p (psrN v) (psrZ v) (psrC v) (psrV v)

/-- MCR (R704). -/
def execArmMcr (c : Cond) (op1 : BitVec 3) (crn rd cp : BitVec 4) (op2 : BitVec 3) (crm : BitVec 4) (s : State) :
    Host.Outcome State Fault Refusal :=
  runAct
    (whenPassed c do
      coprocessorAccess cp
      unpredictableIf (rd == 15#4) .mcrFromPc
      let v ← readReg rd
      cp15Write (cp15Id crn op1 crm op2) v)
    s

/-- MRC (R705, R711). -/
def execArmMrc (c : Cond) (op1 : BitVec 3) (crn rd cp : BitVec 4) (op2 : BitVec 3) (crm : BitVec 4) (s : State) :
    Host.Outcome State Fault Refusal :=
  runAct
    (whenPassed c do
      coprocessorAccess cp
      let v ← cp15Read (cp15Id crn op1 crm op2)
      if rd = 15#4 then setCpsrFlags (copyFlags v) else writeReg rd v)
    s

/-- CDP (R706). -/
def execArmCdp (c : Cond) (_op1 _crn _crd cp : BitVec 4) (_op2 : BitVec 3) (_crm : BitVec 4) (s : State) :
    Host.Outcome State Fault Refusal :=
  runAct (whenPassed c (refuseToCp15 cp)) s

/-- LDC (R707). -/
def execArmLdc (c : Cond) (_p _u _n _w : Bool) (_rn _crd cp : BitVec 4) (_offset8 : BitVec 8) (s : State) :
    Host.Outcome State Fault Refusal :=
  runAct (whenPassed c (refuseToCp15 cp)) s

/-- STC (R708). -/
def execArmStc (c : Cond) (_p _u _n _w : Bool) (_rn _crd cp : BitVec 4) (_offset8 : BitVec 8) (s : State) :
    Host.Outcome State Fault Refusal :=
  runAct (whenPassed c (refuseToCp15 cp)) s

/-- MCRR (R709). -/
def execArmMcrr (c : Cond) (_rn _rd cp _op _crm : BitVec 4) (s : State) : Host.Outcome State Fault Refusal :=
  runAct (whenPassed c (refuseToCp15 cp)) s

/-- MRRC (R709). -/
def execArmMrrc (c : Cond) (_rn _rd cp _op _crm : BitVec 4) (s : State) : Host.Outcome State Fault Refusal :=
  runAct (whenPassed c (refuseToCp15 cp)) s

/-- CDP2 (R710). -/
def execArmCdp2 (_op1 _crn _crd cp : BitVec 4) (_op2 : BitVec 3) (_crm : BitVec 4) (s : State) :
    Host.Outcome State Fault Refusal :=
  runAct (refuseToCp15 cp) s

/-- LDC2 (R710). -/
def execArmLdc2 (_p _u _n _w : Bool) (_rn _crd cp : BitVec 4) (_offset8 : BitVec 8) (s : State) :
    Host.Outcome State Fault Refusal :=
  runAct (refuseToCp15 cp) s

/-- STC2 (R710). -/
def execArmStc2 (_p _u _n _w : Bool) (_rn _crd cp : BitVec 4) (_offset8 : BitVec 8) (s : State) :
    Host.Outcome State Fault Refusal :=
  runAct (refuseToCp15 cp) s

/-- MCR2 (R710). -/
def execArmMcr2 (_op1 : BitVec 3) (_crn _rd cp : BitVec 4) (_op2 : BitVec 3) (_crm : BitVec 4) (s : State) :
    Host.Outcome State Fault Refusal :=
  runAct (refuseToCp15 cp) s

/-- MRC2 (R710). -/
def execArmMrc2 (_op1 : BitVec 3) (_crn _rd cp : BitVec 4) (_op2 : BitVec 3) (_crm : BitVec 4) (s : State) :
    Host.Outcome State Fault Refusal :=
  runAct (refuseToCp15 cp) s

end Sys2Proof.Machine
end

