-- ==== Sys2Proof/Machine/DataProcessing.lean ====
section
/-! DEFINITION. The ARM data-processing instructions (spec/40_arm_data_processing.md R406 to R425). -/

namespace Sys2Proof.Machine

/-- The sixteen operations (R410 to R425). -/
inductive DpOp where
  | and | eor | sub | rsb | add | adc | sbc | rsc | tst | teq | cmp | cmn | orr | mov | bic | mvn
  deriving DecidableEq, Repr

/-- A logical result, whose carry is the shifter's (R406). -/
def logical (r : Word) (sc : Bool) : AluOut := ⟨r, sc, false⟩

/-- Operation(op, a, op2, sc), with the carry flag c (R410 to R425). -/
def DpOp.apply (op : DpOp) (a : Word) (sh : Shifted) (c : Bool) : AluOut :=
  match op with
  | .and => logical (a &&& sh.value) sh.carry
  | .eor => logical (a ^^^ sh.value) sh.carry
  | .sub => addWithCarry a (~~~sh.value) true
  | .rsb => addWithCarry sh.value (~~~a) true
  | .add => addWithCarry a sh.value false
  | .adc => addWithCarry a sh.value c
  | .sbc => addWithCarry a (~~~sh.value) c
  | .rsc => addWithCarry sh.value (~~~a) c
  | .tst => logical (a &&& sh.value) sh.carry
  | .teq => logical (a ^^^ sh.value) sh.carry
  | .cmp => addWithCarry a (~~~sh.value) true
  | .cmn => addWithCarry a sh.value false
  | .orr => logical (a ||| sh.value) sh.carry
  | .mov => logical sh.value sh.carry
  | .bic => logical (a &&& ~~~sh.value) sh.carry
  | .mvn => logical (~~~sh.value) sh.carry

/-- The arithmetic operations of SetFlags (R406). -/
def DpOp.arithmetic : DpOp → Bool
  | .and => false
  | .eor => false
  | .sub => true
  | .rsb => true
  | .add => true
  | .adc => true
  | .sbc => true
  | .rsc => true
  | .tst => false
  | .teq => false
  | .cmp => true
  | .cmn => true
  | .orr => false
  | .mov => false
  | .bic => false
  | .mvn => false

/-- SetFlags(result, c, v, op) (R406). -/
def DpOp.flags (op : DpOp) (o : AluOut) (p : Word) : Word :=
  if op.arithmetic then arithFlags p o else logicFlags p o.result o.carry

/-- What an operation computes from the registers and flags of a state (R406). -/
def State.dpOut (s : State) (op : DpOp) (rn : RegNum) (op2 : Operand2) : AluOut :=
  op.apply (s.reg rn) (s.shifterOperand op2) (psrC s.cpsr)

/-- DataProcessing(w) for an operation with a destination (R406). -/
def dataProcessing (op : DpOp) (sf : Bool) (rn rd : RegNum) (op2 : Operand2) : Act Unit := do
  unpredictableIf (regShiftUsesPc rn rd op2) .r15RegisterShift
  let o ← look fun s => s.dpOut op rn op2
  if rd = 15#4 then
    if sf then returnFromException o.result else aluWritePC o.result
  else
    writeReg rd o.result
    if sf then setCpsrFlags (op.flags o)

/-- DataProcessing(w) for the four tests: only flags change (R406). -/
def dataTest (op : DpOp) (rn : RegNum) (op2 : Operand2) : Act Unit := do
  unpredictableIf (regShiftUsesPc rn 0#4 op2) .r15RegisterShift
  let o ← look fun s => s.dpOut op rn op2
  setCpsrFlags (op.flags o)

/-- AND (R410). -/
def execArmAnd (c : Cond) (sf : Bool) (rn rd : RegNum) (op2 : Operand2) (s : State) :
    Host.Outcome State Fault Refusal :=
  runAct (whenPassed c (dataProcessing .and sf rn rd op2)) s

/-- EOR (R411). -/
def execArmEor (c : Cond) (sf : Bool) (rn rd : RegNum) (op2 : Operand2) (s : State) :
    Host.Outcome State Fault Refusal :=
  runAct (whenPassed c (dataProcessing .eor sf rn rd op2)) s

/-- SUB (R412). -/
def execArmSub (c : Cond) (sf : Bool) (rn rd : RegNum) (op2 : Operand2) (s : State) :
    Host.Outcome State Fault Refusal :=
  runAct (whenPassed c (dataProcessing .sub sf rn rd op2)) s

/-- RSB (R413). -/
def execArmRsb (c : Cond) (sf : Bool) (rn rd : RegNum) (op2 : Operand2) (s : State) :
    Host.Outcome State Fault Refusal :=
  runAct (whenPassed c (dataProcessing .rsb sf rn rd op2)) s

/-- ADD (R414). -/
def execArmAdd (c : Cond) (sf : Bool) (rn rd : RegNum) (op2 : Operand2) (s : State) :
    Host.Outcome State Fault Refusal :=
  runAct (whenPassed c (dataProcessing .add sf rn rd op2)) s

/-- ADC (R415). -/
def execArmAdc (c : Cond) (sf : Bool) (rn rd : RegNum) (op2 : Operand2) (s : State) :
    Host.Outcome State Fault Refusal :=
  runAct (whenPassed c (dataProcessing .adc sf rn rd op2)) s

/-- SBC (R416). -/
def execArmSbc (c : Cond) (sf : Bool) (rn rd : RegNum) (op2 : Operand2) (s : State) :
    Host.Outcome State Fault Refusal :=
  runAct (whenPassed c (dataProcessing .sbc sf rn rd op2)) s

/-- RSC (R417). -/
def execArmRsc (c : Cond) (sf : Bool) (rn rd : RegNum) (op2 : Operand2) (s : State) :
    Host.Outcome State Fault Refusal :=
  runAct (whenPassed c (dataProcessing .rsc sf rn rd op2)) s

/-- TST (R407, R418). -/
def execArmTst (c : Cond) (rn : RegNum) (sb : BitVec 4) (op2 : Operand2) (s : State) :
    Host.Outcome State Fault Refusal :=
  runAct (whenPassed c (do shouldBe (sb == 0#4); dataTest .tst rn op2)) s

/-- TEQ (R407, R419). -/
def execArmTeq (c : Cond) (rn : RegNum) (sb : BitVec 4) (op2 : Operand2) (s : State) :
    Host.Outcome State Fault Refusal :=
  runAct (whenPassed c (do shouldBe (sb == 0#4); dataTest .teq rn op2)) s

/-- CMP (R407, R420). -/
def execArmCmp (c : Cond) (rn : RegNum) (sb : BitVec 4) (op2 : Operand2) (s : State) :
    Host.Outcome State Fault Refusal :=
  runAct (whenPassed c (do shouldBe (sb == 0#4); dataTest .cmp rn op2)) s

/-- CMN (R407, R421). -/
def execArmCmn (c : Cond) (rn : RegNum) (sb : BitVec 4) (op2 : Operand2) (s : State) :
    Host.Outcome State Fault Refusal :=
  runAct (whenPassed c (do shouldBe (sb == 0#4); dataTest .cmn rn op2)) s

/-- ORR (R422). -/
def execArmOrr (c : Cond) (sf : Bool) (rn rd : RegNum) (op2 : Operand2) (s : State) :
    Host.Outcome State Fault Refusal :=
  runAct (whenPassed c (dataProcessing .orr sf rn rd op2)) s

/-- MOV (R407, R423): the first operand field is should-be-zero and not read. -/
def execArmMov (c : Cond) (sf : Bool) (sb : BitVec 4) (rd : RegNum) (op2 : Operand2) (s : State) :
    Host.Outcome State Fault Refusal :=
  runAct (whenPassed c (do shouldBe (sb == 0#4); dataProcessing .mov sf 0#4 rd op2)) s

/-- BIC (R424). -/
def execArmBic (c : Cond) (sf : Bool) (rn rd : RegNum) (op2 : Operand2) (s : State) :
    Host.Outcome State Fault Refusal :=
  runAct (whenPassed c (dataProcessing .bic sf rn rd op2)) s

/-- MVN (R407, R425): the first operand field is should-be-zero and not read. -/
def execArmMvn (c : Cond) (sf : Bool) (sb : BitVec 4) (rd : RegNum) (op2 : Operand2) (s : State) :
    Host.Outcome State Fault Refusal :=
  runAct (whenPassed c (do shouldBe (sb == 0#4); dataProcessing .mvn sf 0#4 rd op2)) s

end Sys2Proof.Machine
end

