-- ==== Sys2Proof/Machine/LoadStore.lean ====
section
/-! DEFINITION. The ARM single loads and stores, swap and preload (spec/42_arm_load_store.md R500 to R522), over
transfers that the Thumb loads and stores share. -/

namespace Sys2Proof.Machine

/-! ## Transfers -/

/-- The privilege a data access is checked with: the mode's, or User for the T forms (R204, R503). -/
def State.accessPriv (s : State) (user : Bool) : Bool := !user && s.privileged

/-- The rotation of a word loaded from address a (R504). -/
def rotateLoaded (a data : Word) : Word := ror data (8 * (a.extractLsb' 0 2).toNat)

/-- ROR(MemRead(a, 4), 8 * a[1:0]) (R504). -/
def loadWord (a : Word) (user : Bool) : Act Word := do
  let priv ← look fun s => s.accessPriv user
  let data ← memRead a .word priv
  pure (rotateLoaded a data)

/-- MemRead of a byte, zero-extended (R507). -/
def loadByte (a : Word) (user : Bool) : Act Word := do
  let priv ← look fun s => s.accessPriv user
  memRead a .byte priv

/-- A halfword access at an odd address, unless the MMU's alignment check takes it (R207). -/
def State.oddHalfword (s : State) (a : Word) : Bool := a.getLsbD 0 && !(s.mmuOn && s.alignCheck)

/-- The odd-address check of the halfword transfers (R514, R515, R517). -/
def halfwordCheck (a : Word) : Act Unit := fun s => unpredictableIf (s.oddHalfword a) .misalignedHalfword s

/-- MemRead of a halfword after the odd-address check, zero-extended (R514). -/
def loadHalf (a : Word) : Act Word := do
  halfwordCheck a
  let priv ← look fun s => s.accessPriv false
  memRead a .half priv

/-- sext_32 of a loaded byte (R516). -/
def signExtendByte (v : Word) : Word := (v.extractLsb' 0 8).signExtend 32

/-- sext_32 of a loaded halfword (R517). -/
def signExtendHalf (v : Word) : Word := (v.extractLsb' 0 16).signExtend 32

/-- MemWrite of a register at the mode's privilege, or User's for the T forms (R506, R508). -/
def storeReg (rd : RegNum) (n : AccSize) (a : Word) (user : Bool) : Act Unit := do
  let priv ← look fun s => s.accessPriv user
  let v ← readReg rd
  memWrite a n v priv

/-- MemWrite of a halfword after the odd-address check (R515). -/
def storeHalf (rd : RegNum) (a : Word) : Act Unit := do
  halfwordCheck a
  storeReg rd .half a false

/-! ## Mode 2 (R505 to R512) -/

/-- The address of a mode-2 transfer, after the checks of R500 and R502: restricted says what the instruction
adds to the write-back restrictions. -/
def mode2 (u : Bool) (ix : Indexing) (rn rd : RegNum) (off : Offset2) (restricted : Bool) : Act Address := do
  unpredictableIf (mode2Restricted ix rn rd || restricted) .mode2Restriction
  unpredictableIf (offset2UsesPc off) .r15Offset
  look fun s => s.mode2Address u ix rn off

/-- A loaded word's destination: a register, or the PC from an aligned address (R505). -/
def writeLoadedWord (rd : RegNum) (a data : Word) : Act Unit :=
  if rd = 15#4 then do
    unpredictableIf (!AccSize.word.aligned a) .misalignedPcLoad
    loadWritePC data
  else writeReg rd data

/-- LDR and LDRT after the condition (R505, R509). -/
def loadWord2 (user u : Bool) (ix : Indexing) (rn rd : RegNum) (off : Offset2) : Act Unit := do
  let a ← mode2 u ix rn rd off (user && rd == 15#4)
  let data ← loadWord a.ea user
  writeBackBase rn a.writeBack
  writeLoadedWord rd a.ea data

/-- LDRB and LDRBT after the condition (R507, R511). -/
def loadByte2 (user u : Bool) (ix : Indexing) (rn rd : RegNum) (off : Offset2) : Act Unit := do
  let a ← mode2 u ix rn rd off (rd == 15#4)
  let data ← loadByte a.ea user
  writeBackBase rn a.writeBack
  writeReg rd data

/-- STR and STRT after the condition (R506, R510). -/
def storeWord2 (user u : Bool) (ix : Indexing) (rn rd : RegNum) (off : Offset2) : Act Unit := do
  let a ← mode2 u ix rn rd off false
  storeReg rd .word a.ea user
  writeBackBase rn a.writeBack

/-- STRB and STRBT after the condition (R508, R512). -/
def storeByte2 (user u : Bool) (ix : Indexing) (rn rd : RegNum) (off : Offset2) : Act Unit := do
  let a ← mode2 u ix rn rd off (rd == 15#4)
  storeReg rd .byte a.ea user
  writeBackBase rn a.writeBack

/-- LDR (R505). -/
def execArmLdr (c : Cond) (u : Bool) (ix : Indexing) (rn rd : RegNum) (off : Offset2) (s : State) :
    Host.Outcome State Fault Refusal :=
  runAct (whenPassed c (loadWord2 false u ix rn rd off)) s

/-- STR (R506). -/
def execArmStr (c : Cond) (u : Bool) (ix : Indexing) (rn rd : RegNum) (off : Offset2) (s : State) :
    Host.Outcome State Fault Refusal :=
  runAct (whenPassed c (storeWord2 false u ix rn rd off)) s

/-- LDRB (R507). -/
def execArmLdrb (c : Cond) (u : Bool) (ix : Indexing) (rn rd : RegNum) (off : Offset2) (s : State) :
    Host.Outcome State Fault Refusal :=
  runAct (whenPassed c (loadByte2 false u ix rn rd off)) s

/-- STRB (R508). -/
def execArmStrb (c : Cond) (u : Bool) (ix : Indexing) (rn rd : RegNum) (off : Offset2) (s : State) :
    Host.Outcome State Fault Refusal :=
  runAct (whenPassed c (storeByte2 false u ix rn rd off)) s

/-- LDRT (R509): post-indexed, checked as User (R503). -/
def execArmLdrt (c : Cond) (u : Bool) (rn rd : RegNum) (off : Offset2) (s : State) :
    Host.Outcome State Fault Refusal :=
  runAct (whenPassed c (loadWord2 true u .postIndexed rn rd off)) s

/-- STRT (R510): post-indexed, checked as User (R503). -/
def execArmStrt (c : Cond) (u : Bool) (rn rd : RegNum) (off : Offset2) (s : State) :
    Host.Outcome State Fault Refusal :=
  runAct (whenPassed c (storeWord2 true u .postIndexed rn rd off)) s

/-- LDRBT (R511): post-indexed, checked as User (R503). -/
def execArmLdrbt (c : Cond) (u : Bool) (rn rd : RegNum) (off : Offset2) (s : State) :
    Host.Outcome State Fault Refusal :=
  runAct (whenPassed c (loadByte2 true u .postIndexed rn rd off)) s

/-- STRBT (R512): post-indexed, checked as User (R503). -/
def execArmStrbt (c : Cond) (u : Bool) (rn rd : RegNum) (off : Offset2) (s : State) :
    Host.Outcome State Fault Refusal :=
  runAct (whenPassed c (storeByte2 true u .postIndexed rn rd off)) s

/-! ## Mode 3 (R513 to R519) -/

/-- The address of a mode-3 transfer, after the checks of R513: restricted says what the instruction adds to
them. -/
def mode3Checked (p u w : Bool) (rn rd : RegNum) (off : Offset3) (restricted : Bool) : Act Address := do
  unpredictableIf (offset3UsesPc off) .r15Offset
  unpredictableIf (mode3Restricted p w rn rd || restricted) .mode3Restriction
  look fun s => s.mode3Address p u w rn off

/-- The address of a mode-3 transfer of one register, after the should-be test of R306. -/
def mode3 (p u w : Bool) (rn rd : RegNum) (off : Offset3) (restricted : Bool) : Act Address := do
  shouldBe (offset3SbOk off)
  mode3Checked p u w rn rd off restricted

/-- The address of a doubleword transfer: the should-be test of R306, the rule's own test of the pair, then R513
with the write-back of a pair (R518, R519). -/
def mode3Pair (p u w : Bool) (rn rd : RegNum) (off : Offset3) (noSuchPair : Bool) : Act Address := do
  shouldBe (offset3SbOk off)
  unpredictableIf noSuchPair .doublewordRegisters
  mode3Checked p u w rn rd off (pairWriteBack p w rn rd)

/-- LDRH (R514). -/
def execArmLdrh (c : Cond) (p u w : Bool) (rn rd : RegNum) (off : Offset3) (s : State) :
    Host.Outcome State Fault Refusal :=
  runAct
    (whenPassed c do
      let a ← mode3 p u w rn rd off (rd == 15#4)
      let data ← loadHalf a.ea
      writeBackBase rn a.writeBack
      writeReg rd data)
    s

/-- STRH (R515). -/
def execArmStrh (c : Cond) (p u w : Bool) (rn rd : RegNum) (off : Offset3) (s : State) :
    Host.Outcome State Fault Refusal :=
  runAct
    (whenPassed c do
      let a ← mode3 p u w rn rd off (rd == 15#4)
      storeHalf rd a.ea
      writeBackBase rn a.writeBack)
    s

/-- LDRSB (R516). -/
def execArmLdrsb (c : Cond) (p u w : Bool) (rn rd : RegNum) (off : Offset3) (s : State) :
    Host.Outcome State Fault Refusal :=
  runAct
    (whenPassed c do
      let a ← mode3 p u w rn rd off (rd == 15#4)
      let data ← loadByte a.ea false
      writeBackBase rn a.writeBack
      writeReg rd (signExtendByte data))
    s

/-- LDRSH (R517). -/
def execArmLdrsh (c : Cond) (p u w : Bool) (rn rd : RegNum) (off : Offset3) (s : State) :
    Host.Outcome State Fault Refusal :=
  runAct
    (whenPassed c do
      let a ← mode3 p u w rn rd off (rd == 15#4)
      let data ← loadHalf a.ea
      writeBackBase rn a.writeBack
      writeReg rd (signExtendHalf data))
    s

/-- A register number that starts no pair: odd, or 14 (R518, R519). -/
def noPair (rd : RegNum) : Bool := rd.getLsbD 0 || rd == 14#4

/-- An address that is not a multiple of 8 (R207). -/
def notDoubleword (a : Word) : Bool := a.extractLsb' 0 3 != 0#3

/-- A doubleword access that stops: at an address that is not a multiple of 8, unless the MMU's alignment check takes
its first word access, at an address that is not a multiple of 4 with control M = A = 1 (R207, R212). R518 and R519
print the stop without that guard: DEDUCED, log entry 21. -/
def State.oddDoubleword (s : State) (a : Word) : Bool :=
  notDoubleword a && !(s.mmuOn && s.alignCheck && !AccSize.word.aligned a)

/-- The alignment check of LDRD and STRD, before any access (R207, R518, R519, log entry 21). -/
def doublewordCheck (a : Word) : Act Unit := fun s => unpredictableIf (s.oddDoubleword a) .misalignedDoubleword s

/-- LDRD (R518): both words are read before any register is written; a misaligned address stops or takes an alignment
fault as doublewordCheck says (log entry 21). -/
def execArmLdrd (c : Cond) (p u w : Bool) (rn rd : RegNum) (off : Offset3) (s : State) :
    Host.Outcome State Fault Refusal :=
  runAct
    (whenPassed c do
      let a ← mode3Pair p u w rn rd off (noPair rd || offset3InPair rd off)
      doublewordCheck a.ea
      let priv ← look State.privileged
      let lo ← memRead a.ea .word priv
      let hi ← memRead (a.ea + 4#32) .word priv
      writeBackBase rn a.writeBack
      writeReg rd lo
      writeReg (rd + 1#4) hi)
    s

/-- STRD (R519): an abort on the second word leaves the first written; a misaligned address stops or takes an
alignment fault as doublewordCheck says (log entry 21). -/
def execArmStrd (c : Cond) (p u w : Bool) (rn rd : RegNum) (off : Offset3) (s : State) :
    Host.Outcome State Fault Refusal :=
  runAct
    (whenPassed c do
      let a ← mode3Pair p u w rn rd off (noPair rd)
      doublewordCheck a.ea
      storeReg rd .word a.ea false
      storeReg (rd + 1#4) .word (a.ea + 4#32) false
      writeBackBase rn a.writeBack)
    s

/-! ## Swap and preload (R520 to R522) -/

/-- The register restrictions of SWP and SWPB (R520). -/
def swapRestricted (rn rd rm : RegNum) : Bool :=
  rd == 15#4 || rm == 15#4 || rn == 15#4 || rn == rm || rn == rd

/-- SWP and SWPB after the condition (R520, R521): both translations, both probes, then the read and the write
with no access between; what arrives in Rd is made from the address and the unit read. -/
def swap (n : AccSize) (result : Word → Word → Word) (rn rd : RegNum) (sb : BitVec 4) (rm : RegNum) : Act Unit := do
  shouldBe (sb == 0#4)
  unpredictableIf (swapRestricted rn rd rm) .swapRegisters
  let a ← readReg rn
  let v ← readReg rm
  let priv ← look State.privileged
  let paR ← translateVa a n false priv true
  let paW ← translateVa a n false priv false
  probe (fun s => tryRead s n (n.align paR) && tryWrite s n (n.align paW)) .dataAbort .busSwap
  let t ← look fun s => s.mem.read n (n.align paR)
  change fun s => s.store n (n.align paW) v
  writeReg rd (result a t)

/-- SWP (R520). -/
def execArmSwp (c : Cond) (rn rd : RegNum) (sb : BitVec 4) (rm : RegNum) (s : State) :
    Host.Outcome State Fault Refusal :=
  runAct (whenPassed c (swap .word rotateLoaded rn rd sb rm)) s

/-- SWPB (R521): no rotation. -/
def execArmSwpb (c : Cond) (rn rd : RegNum) (sb : BitVec 4) (rm : RegNum) (s : State) :
    Host.Outcome State Fault Refusal :=
  runAct (whenPassed c (swap .byte (fun _ t => t) rn rd sb rm)) s

/-- PLD with an immediate offset (R522): nothing but the should-be-one field is looked at. -/
def execArmPldImm (_u : Bool) (_rn : RegNum) (sb : BitVec 4) (_offset12 : BitVec 12) (s : State) :
    Host.Outcome State Fault Refusal :=
  runAct (shouldBe (sb == 0xF#4)) s

/-- PLD with a register offset (R522): nothing but the should-be-one field is looked at. -/
def execArmPldReg (_u : Bool) (_rn : RegNum) (sb : BitVec 4) (_amt : BitVec 5) (_kind : ShiftKind) (_rm : RegNum)
    (s : State) : Host.Outcome State Fault Refusal :=
  runAct (shouldBe (sb == 0xF#4)) s

end Sys2Proof.Machine
end

