-- ==== Sys2Proof/Machine/Multiply.lean ====
section
/-! DEFINITION. The ARM multiplies, and the DSP multiplies and saturating instructions that the core refuses
(spec/41_arm_multiply.md R450 to R468). -/

namespace Sys2Proof.Machine

/-- Some named register is r15 (R450). -/
def anyPc (rs : List RegNum) : Bool := rs.any fun r => r == 15#4

/-- The restrictions on the long forms (R450). -/
def longRestricted (rdHi rdLo rs rm : RegNum) : Bool :=
  anyPc [rdHi, rdLo, rs, rm] || rdHi == rdLo || rdHi == rm || rdLo == rm

/-- The 32-bit product, the addend added, modulo 2^32 (R451, R452). -/
def product32 (a b addend : Word) : Word := a * b + addend

/-- UInt(a) * UInt(b) (R453): exact in 64 bits. -/
def productU (a b : Word) : DWord := a.setWidth 64 * b.setWidth 64

/-- SInt(a) * SInt(b) mod 2^64 (R455). -/
def productS (a b : Word) : DWord := a.signExtend 64 * b.signExtend 64

/-- x[RdHi] : x[RdLo] (R454, R456). -/
def State.pair (s : State) (rdHi rdLo : RegNum) : DWord :=
  (s.reg rdHi).setWidth 64 <<< 32 ||| (s.reg rdLo).setWidth 64

/-- The destination and flags of a 32-bit multiply (R451, R452). -/
def writeProduct (sf : Bool) (rd : RegNum) (r : Word) : Act Unit := do
  writeReg rd r
  if sf then setCpsrFlags fun p => nzFlags p r

/-- The destinations and flags of a long multiply (R453 to R456). -/
def writeLong (sf : Bool) (rdHi rdLo : RegNum) (p : DWord) : Act Unit := do
  writeReg rdHi (p.extractLsb' 32 32)
  writeReg rdLo (p.extractLsb' 0 32)
  if sf then setCpsrFlags fun q => nzFlags64 q p

/-- A long multiply (R453 to R456): the product of Rm and Rs, and the destination pair added for the
accumulating forms. -/
def longMultiply (product : Word → Word → DWord) (accumulate sf : Bool) (rdHi rdLo rs rm : RegNum) : Act Unit := do
  unpredictableIf (longRestricted rdHi rdLo rs rm) .multiplyRegisters
  let p ← look fun s =>
    product (s.reg rm) (s.reg rs) + (if accumulate then s.pair rdHi rdLo else 0#64)
  writeLong sf rdHi rdLo p

/-- MUL (R451). -/
def execArmMul (c : Cond) (sf : Bool) (rd : RegNum) (sb : BitVec 4) (rs rm : RegNum) (s : State) :
    Host.Outcome State Fault Refusal :=
  runAct
    (whenPassed c do
      shouldBe (sb == 0#4)
      unpredictableIf (anyPc [rd, rs, rm] || rd == rm) .multiplyRegisters
      let r ← look fun s => product32 (s.reg rm) (s.reg rs) 0#32
      writeProduct sf rd r)
    s

/-- MLA (R452). -/
def execArmMla (c : Cond) (sf : Bool) (rd rn rs rm : RegNum) (s : State) :
    Host.Outcome State Fault Refusal :=
  runAct
    (whenPassed c do
      unpredictableIf (anyPc [rd, rn, rs, rm] || rd == rm) .multiplyRegisters
      let r ← look fun s => product32 (s.reg rm) (s.reg rs) (s.reg rn)
      writeProduct sf rd r)
    s

/-- UMULL (R453). -/
def execArmUmull (c : Cond) (sf : Bool) (rdHi rdLo rs rm : RegNum) (s : State) :
    Host.Outcome State Fault Refusal :=
  runAct (whenPassed c (longMultiply productU false sf rdHi rdLo rs rm)) s

/-- UMLAL (R454). -/
def execArmUmlal (c : Cond) (sf : Bool) (rdHi rdLo rs rm : RegNum) (s : State) :
    Host.Outcome State Fault Refusal :=
  runAct (whenPassed c (longMultiply productU true sf rdHi rdLo rs rm)) s

/-- SMULL (R455). -/
def execArmSmull (c : Cond) (sf : Bool) (rdHi rdLo rs rm : RegNum) (s : State) :
    Host.Outcome State Fault Refusal :=
  runAct (whenPassed c (longMultiply productS false sf rdHi rdLo rs rm)) s

/-- SMLAL (R456). -/
def execArmSmlal (c : Cond) (sf : Bool) (rdHi rdLo rs rm : RegNum) (s : State) :
    Host.Outcome State Fault Refusal :=
  runAct (whenPassed c (longMultiply productS true sf rdHi rdLo rs rm)) s

/-! ## Unsupported (R457)

The spec stops here once the condition has passed, so the operand fields are not read. -/

/-- R457: the condition, the should-be field of the row, then stop Unsupported. -/
def refuseDsp (c : Cond) (sb : BitVec 4) (s : State) : Host.Outcome State Fault Refusal :=
  runAct
    (whenPassed c do
      shouldBe (sb == 0#4)
      stopUnsupported .dspInstruction)
    s

/-- SMLAxy (R460). -/
def execArmSmlaxy (c : Cond) (_rd _rn _rs : RegNum) (_y _x : Bool) (_rm : RegNum) (s : State) :
    Host.Outcome State Fault Refusal :=
  refuseDsp c 0#4 s

/-- SMLAWy (R461). -/
def execArmSmlawy (c : Cond) (_rd _rn _rs : RegNum) (_y : Bool) (_rm : RegNum) (s : State) :
    Host.Outcome State Fault Refusal :=
  refuseDsp c 0#4 s

/-- SMULWy (R463). -/
def execArmSmulwy (c : Cond) (_rd : RegNum) (sb : BitVec 4) (_rs : RegNum) (_y : Bool) (_rm : RegNum) (s : State) :
    Host.Outcome State Fault Refusal :=
  refuseDsp c sb s

/-- SMLALxy (R464). -/
def execArmSmlalxy (c : Cond) (_rdHi _rdLo _rs : RegNum) (_y _x : Bool) (_rm : RegNum) (s : State) :
    Host.Outcome State Fault Refusal :=
  refuseDsp c 0#4 s

/-- SMULxy (R462). -/
def execArmSmulxy (c : Cond) (_rd : RegNum) (sb : BitVec 4) (_rs : RegNum) (_y _x : Bool) (_rm : RegNum) (s : State) :
    Host.Outcome State Fault Refusal :=
  refuseDsp c sb s

/-- QADD (R465). -/
def execArmQadd (c : Cond) (_rn _rd : RegNum) (sb : BitVec 4) (_rm : RegNum) (s : State) :
    Host.Outcome State Fault Refusal :=
  refuseDsp c sb s

/-- QSUB (R466). -/
def execArmQsub (c : Cond) (_rn _rd : RegNum) (sb : BitVec 4) (_rm : RegNum) (s : State) :
    Host.Outcome State Fault Refusal :=
  refuseDsp c sb s

/-- QDADD (R467). -/
def execArmQdadd (c : Cond) (_rn _rd : RegNum) (sb : BitVec 4) (_rm : RegNum) (s : State) :
    Host.Outcome State Fault Refusal :=
  refuseDsp c sb s

/-- QDSUB (R468). -/
def execArmQdsub (c : Cond) (_rn _rd : RegNum) (sb : BitVec 4) (_rm : RegNum) (s : State) :
    Host.Outcome State Fault Refusal :=
  refuseDsp c sb s

end Sys2Proof.Machine
end

