-- ==== Sys2Proof/Machine/Status.lean ====
section
/-! DEFINITION. Status-register transfer, CLZ, BKPT, SWI and UNDEFINED (spec/45_arm_status_misc.md R650 to R657). -/

namespace Sys2Proof.Machine

/-- MRS (R650). -/
def execArmMrs (c : Cond) (r : Bool) (sb19 : BitVec 4) (rd : RegNum) (sb11 sb3 : BitVec 4) (s : State) :
    Host.Outcome State Fault Refusal :=
  runAct
    (whenPassed c do
      shouldBe (sb19 == 0xF#4 && sb11 == 0#4 && sb3 == 0#4)
      unpredictableIf (rd == 15#4) .mrsToPc
      if r then
        let b ← currentBank
        let v ← look fun s => s.spsr.get b
        writeReg rd v
      else
        let v ← look fun s => s.cpsr
        writeReg rd v)
    s

/-- The byte lanes of a field mask (R651). -/
def byteMask (mask : BitVec 4) : Word :=
  (if mask.getLsbD 0 then 0x000000FF#32 else 0#32) ||| (if mask.getLsbD 1 then 0x0000FF00#32 else 0#32)
    ||| (if mask.getLsbD 2 then 0x00FF0000#32 else 0#32) ||| (if mask.getLsbD 3 then 0xFF000000#32 else 0#32)

/-- The masked bytes replaced (R651). -/
def mergeBytes (old new mask : Word) : Word := (old &&& ~~~mask) ||| (new &&& mask)

/-- The lanes of the CPSR that an MSR writes: in User mode the flags byte only (R651). -/
def State.cpsrMask (s : State) (mask : BitVec 4) : Word :=
  if s.privileged then byteMask mask else byteMask mask &&& 0xFF000000#32

/-- MSRWrite(R, field_mask, operand) (R651). -/
def msrWrite (r : Bool) (mask : BitVec 4) (operand : Word) : Act Unit :=
  if r then do
    let b ← currentBank
    change fun s => { s with spsr := s.spsr.set b (mergeBytes (s.spsr.get b) operand (byteMask mask)) }
  else do
    let new ← look fun s => mergeBytes s.cpsr operand (s.cpsrMask mask)
    let old ← look fun s => s.cpsr
    unpredictableIf (psrT new != psrT old) .msrChangesT
    writeCpsr new

/-- MSR with a register operand (R653). -/
def execArmMsrReg (c : Cond) (r : Bool) (mask : BitVec 4) (sb : BitVec 8) (rm : RegNum) (s : State) :
    Host.Outcome State Fault Refusal :=
  runAct
    (whenPassed c do
      shouldBe (sb == 0xF0#8)
      unpredictableIf (rm == 15#4) .msrFromPc
      let v ← readReg rm
      msrWrite r mask v)
    s

/-- MSR with an immediate operand (R652). -/
def execArmMsrImm (c : Cond) (r : Bool) (mask sb rot : BitVec 4) (imm8 : BitVec 8) (s : State) :
    Host.Outcome State Fault Refusal :=
  runAct
    (whenPassed c do
      shouldBe (sb == 0xF#4)
      msrWrite r mask (rotatedImm rot imm8))
    s

/-- The zeros above the most significant set bit among the low k bits; k where those are clear (R654). -/
def leadingZeros (v : Word) : Nat → Nat
  | 0 => 0
  | k + 1 => if v.getLsbD k then 0 else leadingZeros v k + 1

/-- CLZ (R654). -/
def execArmClz (c : Cond) (sb19 : BitVec 4) (rd : RegNum) (sb11 : BitVec 4) (rm : RegNum) (s : State) :
    Host.Outcome State Fault Refusal :=
  runAct
    (whenPassed c do
      shouldBe (sb19 == 0xF#4 && sb11 == 0xF#4)
      unpredictableIf (rd == 15#4 || rm == 15#4) .clzPc
      let v ← readReg rm
      writeReg rd (BitVec.ofNat 32 (leadingZeros v 32)))
    s

/-- BKPT (R655): not conditional; a condition other than AL stops. -/
def execArmBkpt (c : Cond) (_immH : BitVec 12) (_immL : BitVec 4) (s : State) : Host.Outcome State Fault Refusal :=
  runAct
    (do
      unpredictableIf (c != .al) .bkptCondition
      raise .prefetchAbort .bkpt)
    s

/-- SWI (R656): the comment field is ignored. -/
def execArmSwi (c : Cond) (_imm24 : BitVec 24) (s : State) : Host.Outcome State Fault Refusal :=
  runAct (whenPassed c (raise .softwareInterrupt .swi)) s

/-- UNDEFINED (R657): in the cond = 1111 space without a condition. -/
def execArmUndefined (w : Word) (s : State) : Host.Outcome State Fault Refusal :=
  runAct
    (if w.extractLsb' 28 4 = 0xF#4 then raise .undefinedInstruction .undefinedWord
      else whenPassed (.ofBits (w.extractLsb' 28 4)) (raise .undefinedInstruction .undefinedWord))
    s

end Sys2Proof.Machine
end

