-- ==== Sys2Proof/Machine/Thumb32.lean ====
section
/-! DEFINITION. The 32-bit Thumb instructions (spec/49_thumb2.md R850 to R858). -/

namespace Sys2Proof.Machine

/-- sext_32(S : S : S : imm10 : imm11 : 0) (R851). -/
def blOffset (s : Bool) (imm10 : BitVec 10) (imm11 : BitVec 11) : Word :=
  (BitVec.ofBool s ++ imm10 ++ imm11 : BitVec (1 + 10 + 11)).signExtend 32 <<< 1

/-- sext_32(S : S : S : imm10H : imm10L : 00) (R852). -/
def blxOffset (s : Bool) (imm10H imm10L : BitVec 10) : Word :=
  (BitVec.ofBool s ++ imm10H ++ imm10L : BitVec (1 + 10 + 10)).signExtend 32 <<< 2

/-- The link of a 32-bit Thumb call: (raw_pc + 4) OR 1 (R851, R852). -/
def State.thumbLink (s : State) : Word := (s.pc + 4#32) ||| 1#32

/-- BL (R851). -/
def execThumb32Bl (sgn : Bool) (imm10 : BitVec 10) (j1 j2 : Bool) (imm11 : BitVec 11) (s : State) :
    Host.Outcome State Fault Refusal :=
  runAct
    (if j1 && j2 then do
      let link ← look State.thumbLink
      let target ← look fun s => s.pc + 4#32 + blOffset sgn imm10 imm11
      writeReg 14#4 link
      branchWritePC target
    else stopUnsupported .thumb2Range)
    s

/-- BLX(1) (R852): to ARM state, from the base aligned down to a word. -/
def execThumb32BlxImm (sgn : Bool) (imm10H : BitVec 10) (j1 j2 : Bool) (imm10L : BitVec 10) (h : Bool) (s : State) :
    Host.Outcome State Fault Refusal :=
  runAct
    (if j1 && j2 then do
      unpredictableIf h .blxHalfword
      let link ← look State.thumbLink
      let target ← look fun s => ((s.pc + 4#32) &&& 0xFFFFFFFC#32) + blxOffset sgn imm10H imm10L
      writeReg 14#4 link
      change fun s => { s with cpsr := withT s.cpsr false }
      branchWritePC target
    else stopUnsupported .thumb2Range)
    s

/-- UDF (R853). -/
def execThumb32Udf (_imm4 : BitVec 4) (_imm12 : BitVec 12) (s : State) : Host.Outcome State Fault Refusal :=
  runAct (raise .undefinedInstruction .permanentlyUndefined) s

/-! ## Unsupported (R854 to R858)

The spec stops at each of these rows whatever its fields hold. -/

/-- SMC (R854). -/
def execThumb32Smc (_imm4 : BitVec 4) (_free12 : BitVec 12) (s : State) : Host.Outcome State Fault Refusal :=
  runAct (stopUnsupported .smc) s

/-- B, encoding T3 (R855). -/
def execThumb32BT3 (_sgn : Bool) (_cond : BitVec 4) (_imm6 : BitVec 6) (_j1 _j2 : Bool) (_imm11 : BitVec 11)
    (s : State) : Host.Outcome State Fault Refusal :=
  runAct (stopUnsupported .thumb2Branch) s

/-- B, encoding T4 (R856). -/
def execThumb32BT4 (_sgn : Bool) (_imm10 : BitVec 10) (_j1 _j2 : Bool) (_imm11 : BitVec 11) (s : State) :
    Host.Outcome State Fault Refusal :=
  runAct (stopUnsupported .thumb2Branch) s

/-- MSR_T2 (R857). -/
def execThumb32Msr (_free5 : BitVec 5) (_free13 : Bool) (_free12 : BitVec 12) (s : State) :
    Host.Outcome State Fault Refusal :=
  runAct (stopUnsupported .thumb2Control) s

/-- HINT_T2 (R857). -/
def execThumb32Hint (_free4 : BitVec 4) (_free13 : Bool) (_free12 : BitVec 12) (s : State) :
    Host.Outcome State Fault Refusal :=
  runAct (stopUnsupported .thumb2Control) s

/-- MISCCTL_T2 (R857). -/
def execThumb32MiscCtl (_free4 : BitVec 4) (_free13 : Bool) (_free12 : BitVec 12) (s : State) :
    Host.Outcome State Fault Refusal :=
  runAct (stopUnsupported .thumb2Control) s

/-- BXJ_T2 (R857). -/
def execThumb32Bxj (_free4 : BitVec 4) (_free13 : Bool) (_free12 : BitVec 12) (s : State) :
    Host.Outcome State Fault Refusal :=
  runAct (stopUnsupported .thumb2Control) s

/-- SUBS_PC_LR_T2 (R857). -/
def execThumb32SubsPcLr (_free4 : BitVec 4) (_free13 : Bool) (_free12 : BitVec 12) (s : State) :
    Host.Outcome State Fault Refusal :=
  runAct (stopUnsupported .thumb2Control) s

/-- MRS_T2 (R857). -/
def execThumb32Mrs (_free5 : BitVec 5) (_free13 : Bool) (_free12 : BitVec 12) (s : State) :
    Host.Outcome State Fault Refusal :=
  runAct (stopUnsupported .thumb2Control) s

/-- T2_BRMISC_UNDEF (R857): not an UNDEFINED, the core does not claim to know that set. -/
def execThumb32BrMiscUndef (_opm : BitVec 3) (_free4 : BitVec 4) (_free13 : Bool) (_free12 : BitVec 12) (s : State) :
    Host.Outcome State Fault Refusal :=
  runAct (stopUnsupported .thumb2Control) s

/-- T2_DP_IMM (R858). -/
def execThumb32DpImm (_free11 : BitVec 11) (_free15 : BitVec 15) (s : State) : Host.Outcome State Fault Refusal :=
  runAct (stopUnsupported .thumb2Space) s

/-- T2_SPACE_01 (R858). -/
def execThumb32Space01 (_free27 : BitVec 27) (s : State) : Host.Outcome State Fault Refusal :=
  runAct (stopUnsupported .thumb2Space) s

/-- T2_SPACE_11 (R858). -/
def execThumb32Space11 (_free27 : BitVec 27) (s : State) : Host.Outcome State Fault Refusal :=
  runAct (stopUnsupported .thumb2Space) s

end Sys2Proof.Machine
end

