-- ==== Sys2Proof/Machine/ThumbAlu.lean ====
section
/-! DEFINITION. The Thumb data-processing instructions (spec/47_thumb_alu.md R750 to R784). -/

namespace Sys2Proof.Machine

/-- A result written to a register and its flags (R750). -/
def writeResult (rd : RegNum) (r : Word) (flags : Word → Word) : Act Unit := do
  writeReg rd r
  setCpsrFlags flags

/-- An arithmetic result: N, Z, C and V (R750). -/
def thumbArith (rd : LowReg) (o : AluOut) : Act Unit := writeResult (lowReg rd) o.result fun p => arithFlags p o

/-- A shifted result: N, Z and C (R751). -/
def thumbShifted (rd : LowReg) (sh : Shifted) : Act Unit :=
  writeResult (lowReg rd) sh.value fun p => logicFlags p sh.value sh.carry

/-- A logical result: N and Z; C and V are unchanged (R762). -/
def thumbLogic (rd : LowReg) (r : Word) : Act Unit := writeResult (lowReg rd) r fun p => nzFlags p r

/-- A shift by an immediate (R751 to R753). -/
def thumbShiftImm (kind : ShiftKind) (imm5 : BitVec 5) (rm rd : LowReg) : Act Unit := do
  let sh ← look fun s => shiftImm kind imm5 (s.reg (lowReg rm)) (psrC s.cpsr)
  thumbShifted rd sh

/-- A shift of Rd by the low byte of Rm (R764 to R766, R769). -/
def thumbShiftReg (kind : ShiftKind) (rm rd : LowReg) : Act Unit := do
  let sh ← look fun s =>
    shiftReg kind ((s.reg (lowReg rm)).extractLsb' 0 8) (s.reg (lowReg rd)) (psrC s.cpsr)
  thumbShifted rd sh

/-! ## Shift, add and subtract (R751 to R761) -/

/-- LSL(1) (R751). -/
def execThumbLslImm (imm5 : BitVec 5) (rm rd : LowReg) (s : State) : Host.Outcome State Fault Refusal :=
  runAct (thumbShiftImm .lsl imm5 rm rd) s

/-- LSR(1) (R752). -/
def execThumbLsrImm (imm5 : BitVec 5) (rm rd : LowReg) (s : State) : Host.Outcome State Fault Refusal :=
  runAct (thumbShiftImm .lsr imm5 rm rd) s

/-- ASR(1) (R753). -/
def execThumbAsrImm (imm5 : BitVec 5) (rm rd : LowReg) (s : State) : Host.Outcome State Fault Refusal :=
  runAct (thumbShiftImm .asr imm5 rm rd) s

/-- ADD(3) (R754). -/
def execThumbAddReg (rm rn rd : LowReg) (s : State) : Host.Outcome State Fault Refusal :=
  runAct (do let o ← look fun s => addWithCarry (s.reg (lowReg rn)) (s.reg (lowReg rm)) false; thumbArith rd o) s

/-- SUB(3) (R755). -/
def execThumbSubReg (rm rn rd : LowReg) (s : State) : Host.Outcome State Fault Refusal :=
  runAct (do let o ← look fun s => addWithCarry (s.reg (lowReg rn)) (~~~s.reg (lowReg rm)) true; thumbArith rd o) s

/-- ADD(1) (R756). -/
def execThumbAddImm3 (imm3 : BitVec 3) (rn rd : LowReg) (s : State) : Host.Outcome State Fault Refusal :=
  runAct (do let o ← look fun s => addWithCarry (s.reg (lowReg rn)) (imm3.setWidth 32) false; thumbArith rd o) s

/-- SUB(1) (R757). -/
def execThumbSubImm3 (imm3 : BitVec 3) (rn rd : LowReg) (s : State) : Host.Outcome State Fault Refusal :=
  runAct (do let o ← look fun s => addWithCarry (s.reg (lowReg rn)) (~~~imm3.setWidth 32) true; thumbArith rd o) s

/-- MOV(1) (R758). -/
def execThumbMovImm (rd : LowReg) (imm8 : BitVec 8) (s : State) : Host.Outcome State Fault Refusal :=
  runAct (thumbLogic rd (imm8.setWidth 32)) s

/-- CMP(1) (R759). -/
def execThumbCmpImm (rn : LowReg) (imm8 : BitVec 8) (s : State) : Host.Outcome State Fault Refusal :=
  runAct
    (do
      let o ← look fun s => addWithCarry (s.reg (lowReg rn)) (~~~imm8.setWidth 32) true
      setCpsrFlags fun p => arithFlags p o)
    s

/-- ADD(2) (R760). -/
def execThumbAddImm8 (rd : LowReg) (imm8 : BitVec 8) (s : State) : Host.Outcome State Fault Refusal :=
  runAct (do let o ← look fun s => addWithCarry (s.reg (lowReg rd)) (imm8.setWidth 32) false; thumbArith rd o) s

/-- SUB(2) (R761). -/
def execThumbSubImm8 (rd : LowReg) (imm8 : BitVec 8) (s : State) : Host.Outcome State Fault Refusal :=
  runAct (do let o ← look fun s => addWithCarry (s.reg (lowReg rd)) (~~~imm8.setWidth 32) true; thumbArith rd o) s

/-! ## Register ALU operations (R762 to R777) -/

/-- AND (R762). -/
def execThumbAnd (rm rd : LowReg) (s : State) : Host.Outcome State Fault Refusal :=
  runAct (do let r ← look fun s => s.reg (lowReg rd) &&& s.reg (lowReg rm); thumbLogic rd r) s

/-- EOR (R763). -/
def execThumbEor (rm rd : LowReg) (s : State) : Host.Outcome State Fault Refusal :=
  runAct (do let r ← look fun s => s.reg (lowReg rd) ^^^ s.reg (lowReg rm); thumbLogic rd r) s

/-- LSL(2) (R764). -/
def execThumbLslReg (rm rd : LowReg) (s : State) : Host.Outcome State Fault Refusal :=
  runAct (thumbShiftReg .lsl rm rd) s

/-- LSR(2) (R765). -/
def execThumbLsrReg (rm rd : LowReg) (s : State) : Host.Outcome State Fault Refusal :=
  runAct (thumbShiftReg .lsr rm rd) s

/-- ASR(2) (R766). -/
def execThumbAsrReg (rm rd : LowReg) (s : State) : Host.Outcome State Fault Refusal :=
  runAct (thumbShiftReg .asr rm rd) s

/-- ADC (R767). -/
def execThumbAdc (rm rd : LowReg) (s : State) : Host.Outcome State Fault Refusal :=
  runAct
    (do
      let o ← look fun s => addWithCarry (s.reg (lowReg rd)) (s.reg (lowReg rm)) (psrC s.cpsr)
      thumbArith rd o)
    s

/-- SBC (R768). -/
def execThumbSbc (rm rd : LowReg) (s : State) : Host.Outcome State Fault Refusal :=
  runAct
    (do
      let o ← look fun s => addWithCarry (s.reg (lowReg rd)) (~~~s.reg (lowReg rm)) (psrC s.cpsr)
      thumbArith rd o)
    s

/-- ROR (R769). -/
def execThumbRor (rm rd : LowReg) (s : State) : Host.Outcome State Fault Refusal :=
  runAct (thumbShiftReg .ror rm rd) s

/-- TST (R770). -/
def execThumbTst (rm rd : LowReg) (s : State) : Host.Outcome State Fault Refusal :=
  runAct
    (do
      let r ← look fun s => s.reg (lowReg rd) &&& s.reg (lowReg rm)
      setCpsrFlags fun p => nzFlags p r)
    s

/-- NEG (R771). -/
def execThumbNeg (rm rd : LowReg) (s : State) : Host.Outcome State Fault Refusal :=
  runAct (do let o ← look fun s => addWithCarry 0#32 (~~~s.reg (lowReg rm)) true; thumbArith rd o) s

/-- CMP(2) (R772). -/
def execThumbCmpReg (rm rd : LowReg) (s : State) : Host.Outcome State Fault Refusal :=
  runAct
    (do
      let o ← look fun s => addWithCarry (s.reg (lowReg rd)) (~~~s.reg (lowReg rm)) true
      setCpsrFlags fun p => arithFlags p o)
    s

/-- CMN (R773). -/
def execThumbCmn (rm rd : LowReg) (s : State) : Host.Outcome State Fault Refusal :=
  runAct
    (do
      let o ← look fun s => addWithCarry (s.reg (lowReg rd)) (s.reg (lowReg rm)) false
      setCpsrFlags fun p => arithFlags p o)
    s

/-- ORR (R774). -/
def execThumbOrr (rm rd : LowReg) (s : State) : Host.Outcome State Fault Refusal :=
  runAct (do let r ← look fun s => s.reg (lowReg rd) ||| s.reg (lowReg rm); thumbLogic rd r) s

/-- MUL (R775). -/
def execThumbMul (rm rd : LowReg) (s : State) : Host.Outcome State Fault Refusal :=
  runAct
    (do
      unpredictableIf (rd == rm) .multiplyRegisters
      let r ← look fun s => s.reg (lowReg rm) * s.reg (lowReg rd)
      thumbLogic rd r)
    s

/-- BIC (R776). -/
def execThumbBic (rm rd : LowReg) (s : State) : Host.Outcome State Fault Refusal :=
  runAct (do let r ← look fun s => s.reg (lowReg rd) &&& ~~~s.reg (lowReg rm); thumbLogic rd r) s

/-- MVN (R777). -/
def execThumbMvn (rm rd : LowReg) (s : State) : Host.Outcome State Fault Refusal :=
  runAct (do let r ← look fun s => ~~~s.reg (lowReg rm); thumbLogic rd r) s

/-! ## Hi-register operations (R778 to R780) -/

/-- The destination of a hi-register form: a register, or the PC (R778, R780). -/
def writeHi (rd : RegNum) (v : Word) : Act Unit := if rd = 15#4 then aluWritePC v else writeReg rd v

/-- ADD(4) (R778). -/
def execThumbAddHi (h1 h2 : Bool) (rm rd : LowReg) (s : State) : Host.Outcome State Fault Refusal :=
  runAct
    (do
      unpredictableIf (!h1 && !h2) .twoLowRegisters
      let r ← look fun s => s.reg (hiReg h1 rd) + s.reg (hiReg h2 rm)
      writeHi (hiReg h1 rd) r)
    s

/-- CMP(3) (R779). -/
def execThumbCmpHi (h1 h2 : Bool) (rm rn : LowReg) (s : State) : Host.Outcome State Fault Refusal :=
  runAct
    (do
      unpredictableIf (!h1 && !h2) .twoLowRegisters
      let o ← look fun s => addWithCarry (s.reg (hiReg h1 rn)) (~~~s.reg (hiReg h2 rm)) true
      setCpsrFlags fun p => arithFlags p o)
    s

/-- MOV(3) (R780). -/
def execThumbMovHi (h1 h2 : Bool) (rm rd : LowReg) (s : State) : Host.Outcome State Fault Refusal :=
  runAct
    (do
      unpredictableIf (!h1 && !h2) .twoLowRegisters
      let v ← readReg (hiReg h2 rm)
      writeHi (hiReg h1 rd) v)
    s

/-! ## Address generation and stack pointer adjustment (R781 to R784) -/

/-- (raw_pc + 4) AND 0xFFFFFFFC (R781). -/
def State.thumbPcBase (s : State) : Word := (s.pc + 4#32) &&& 0xFFFFFFFC#32

/-- zext_32(imm8) * 4 (R781). -/
def words8 (imm8 : BitVec 8) : Word := imm8.setWidth 32 <<< 2

/-- zext_32(imm7) * 4 (R783). -/
def words7 (imm7 : BitVec 7) : Word := imm7.setWidth 32 <<< 2

/-- ADD(5) (R781). -/
def execThumbAddPc (rd : LowReg) (imm8 : BitVec 8) (s : State) : Host.Outcome State Fault Refusal :=
  runAct (do let r ← look fun s => s.thumbPcBase + words8 imm8; writeReg (lowReg rd) r) s

/-- ADD(6) (R782). -/
def execThumbAddSp (rd : LowReg) (imm8 : BitVec 8) (s : State) : Host.Outcome State Fault Refusal :=
  runAct (do let r ← look fun s => s.reg 13#4 + words8 imm8; writeReg (lowReg rd) r) s

/-- ADD(7) (R783). -/
def execThumbAddSpImm7 (imm7 : BitVec 7) (s : State) : Host.Outcome State Fault Refusal :=
  runAct (do let r ← look fun s => s.reg 13#4 + words7 imm7; writeReg 13#4 r) s

/-- SUB(4) (R784). -/
def execThumbSubSpImm7 (imm7 : BitVec 7) (s : State) : Host.Outcome State Fault Refusal :=
  runAct (do let r ← look fun s => s.reg 13#4 - words7 imm7; writeReg 13#4 r) s

end Sys2Proof.Machine
end

