-- ==== Sys2Proof/Machine/ThumbBranch.lean ====
section
/-! DEFINITION. The Thumb branches and exception-generating instructions (spec/48_thumb_mem_branch.md R820,
R822 to R827). -/

namespace Sys2Proof.Machine

/-- raw_pc + 4 + sext_32(imm8 : 0) (R820). -/
def State.thumbTarget8 (s : State) (imm8 : BitVec 8) : Word := s.pc + 4#32 + imm8.signExtend 32 <<< 1

/-- raw_pc + 4 + sext_32(imm11 : 0) (R822). -/
def State.thumbTarget11 (s : State) (imm11 : BitVec 11) : Word := s.pc + 4#32 + imm11.signExtend 32 <<< 1

/-- B(1) (R820). -/
def execThumbBCond (c : Cond) (imm8 : BitVec 8) (s : State) : Host.Outcome State Fault Refusal :=
  runAct
    (whenPassed c do
      let target ← look fun s => s.thumbTarget8 imm8
      branchWritePC target)
    s

/-- B(2) (R822). -/
def execThumbB (imm11 : BitVec 11) (s : State) : Host.Outcome State Fault Refusal :=
  runAct
    (do
      let target ← look fun s => s.thumbTarget11 imm11
      branchWritePC target)
    s

/-- BX (R823). -/
def execThumbBx (h2 : Bool) (rm : LowReg) (sb : BitVec 3) (s : State) : Host.Outcome State Fault Refusal :=
  runAct
    (do
      shouldBe (sb == 0#3)
      let v ← readReg (hiReg h2 rm)
      bxWritePC v)
    s

/-- BLX(2) (R824): the operand is read before the link is written. -/
def execThumbBlxReg (h2 : Bool) (rm : LowReg) (sb : BitVec 3) (s : State) : Host.Outcome State Fault Refusal :=
  runAct
    (do
      shouldBe (sb == 0#3)
      unpredictableIf (hiReg h2 rm == 15#4) .blxPc
      let target ← readReg (hiReg h2 rm)
      let link ← look fun s => (s.pc + 2#32) ||| 1#32
      writeReg 14#4 link
      bxWritePC target)
    s

/-- SWI (R825): the comment field is ignored. -/
def execThumbSwi (_imm8 : BitVec 8) (s : State) : Host.Outcome State Fault Refusal :=
  runAct (raise .softwareInterrupt .swi) s

/-- BKPT (R826). -/
def execThumbBkpt (_imm8 : BitVec 8) (s : State) : Host.Outcome State Fault Refusal :=
  runAct (raise .prefetchAbort .bkpt) s

/-- UNDEFINED (R827). -/
def execThumbUndefined (_h : Half) (s : State) : Host.Outcome State Fault Refusal :=
  runAct (raise .undefinedInstruction .undefinedWord) s

end Sys2Proof.Machine
end

