-- ==== Sys2Proof/Machine/ThumbMemory.lean ====
section
/-! DEFINITION. The Thumb loads, stores and stack and multiple transfers (spec/48_thumb_mem_branch.md R800 to R819,
R821). -/

namespace Sys2Proof.Machine

/-! ## Addresses -/

/-- x[Rn] + x[Rm] (R801). -/
def State.regAddress (s : State) (rm rn : LowReg) : Word := s.reg (lowReg rn) + s.reg (lowReg rm)

/-- x[Rn] + zext_32(imm5) * 2^k (R809, R811, R813). -/
def State.immAddress (s : State) (imm5 : BitVec 5) (rn : LowReg) (k : Nat) : Word :=
  s.reg (lowReg rn) + imm5.setWidth 32 <<< k

/-- x[13] + zext_32(imm8) * 4 (R815). -/
def State.spAddress (s : State) (imm8 : BitVec 8) : Word := s.reg 13#4 + words8 imm8

/-- A word load into a low register, rotated (R805, R810, R816). -/
def thumbLoadWord (rd : LowReg) (a : Word) : Act Unit := do
  let v ← loadWord a false
  writeReg (lowReg rd) v

/-- A byte load into a low register (R807, R812). -/
def thumbLoadByte (rd : LowReg) (a : Word) : Act Unit := do
  let v ← loadByte a false
  writeReg (lowReg rd) v

/-- A halfword load into a low register (R806, R814). -/
def thumbLoadHalf (rd : LowReg) (a : Word) : Act Unit := do
  let v ← loadHalf a
  writeReg (lowReg rd) v

/-! ## Loads and stores (R800 to R816) -/

/-- LDR(3) (R800): the address is word aligned, so nothing rotates. -/
def execThumbLdrPc (rd : LowReg) (imm8 : BitVec 8) (s : State) : Host.Outcome State Fault Refusal :=
  runAct (do let a ← look fun s => s.thumbPcBase + words8 imm8; thumbLoadWord rd a) s

/-- STR(2) (R801). -/
def execThumbStrReg (rm rn rd : LowReg) (s : State) : Host.Outcome State Fault Refusal :=
  runAct (do let a ← look fun s => s.regAddress rm rn; storeReg (lowReg rd) .word a false) s

/-- STRH(2) (R802). -/
def execThumbStrhReg (rm rn rd : LowReg) (s : State) : Host.Outcome State Fault Refusal :=
  runAct (do let a ← look fun s => s.regAddress rm rn; storeHalf (lowReg rd) a) s

/-- STRB(2) (R803). -/
def execThumbStrbReg (rm rn rd : LowReg) (s : State) : Host.Outcome State Fault Refusal :=
  runAct (do let a ← look fun s => s.regAddress rm rn; storeReg (lowReg rd) .byte a false) s

/-- LDRSB (R804). -/
def execThumbLdrsb (rm rn rd : LowReg) (s : State) : Host.Outcome State Fault Refusal :=
  runAct
    (do
      let a ← look fun s => s.regAddress rm rn
      let v ← loadByte a false
      writeReg (lowReg rd) (signExtendByte v))
    s

/-- LDR(2) (R805). -/
def execThumbLdrReg (rm rn rd : LowReg) (s : State) : Host.Outcome State Fault Refusal :=
  runAct (do let a ← look fun s => s.regAddress rm rn; thumbLoadWord rd a) s

/-- LDRH(2) (R806). -/
def execThumbLdrhReg (rm rn rd : LowReg) (s : State) : Host.Outcome State Fault Refusal :=
  runAct (do let a ← look fun s => s.regAddress rm rn; thumbLoadHalf rd a) s

/-- LDRB(2) (R807). -/
def execThumbLdrbReg (rm rn rd : LowReg) (s : State) : Host.Outcome State Fault Refusal :=
  runAct (do let a ← look fun s => s.regAddress rm rn; thumbLoadByte rd a) s

/-- LDRSH (R808). -/
def execThumbLdrsh (rm rn rd : LowReg) (s : State) : Host.Outcome State Fault Refusal :=
  runAct
    (do
      let a ← look fun s => s.regAddress rm rn
      let v ← loadHalf a
      writeReg (lowReg rd) (signExtendHalf v))
    s

/-- STR(1) (R809). -/
def execThumbStrImm (imm5 : BitVec 5) (rn rd : LowReg) (s : State) : Host.Outcome State Fault Refusal :=
  runAct (do let a ← look fun s => s.immAddress imm5 rn 2; storeReg (lowReg rd) .word a false) s

/-- LDR(1) (R810). -/
def execThumbLdrImm (imm5 : BitVec 5) (rn rd : LowReg) (s : State) : Host.Outcome State Fault Refusal :=
  runAct (do let a ← look fun s => s.immAddress imm5 rn 2; thumbLoadWord rd a) s

/-- STRB(1) (R811). -/
def execThumbStrbImm (imm5 : BitVec 5) (rn rd : LowReg) (s : State) : Host.Outcome State Fault Refusal :=
  runAct (do let a ← look fun s => s.immAddress imm5 rn 0; storeReg (lowReg rd) .byte a false) s

/-- LDRB(1) (R812). -/
def execThumbLdrbImm (imm5 : BitVec 5) (rn rd : LowReg) (s : State) : Host.Outcome State Fault Refusal :=
  runAct (do let a ← look fun s => s.immAddress imm5 rn 0; thumbLoadByte rd a) s

/-- STRH(1) (R813). -/
def execThumbStrhImm (imm5 : BitVec 5) (rn rd : LowReg) (s : State) : Host.Outcome State Fault Refusal :=
  runAct (do let a ← look fun s => s.immAddress imm5 rn 1; storeHalf (lowReg rd) a) s

/-- LDRH(1) (R814). -/
def execThumbLdrhImm (imm5 : BitVec 5) (rn rd : LowReg) (s : State) : Host.Outcome State Fault Refusal :=
  runAct (do let a ← look fun s => s.immAddress imm5 rn 1; thumbLoadHalf rd a) s

/-- STR(3) (R815). -/
def execThumbStrSp (rd : LowReg) (imm8 : BitVec 8) (s : State) : Host.Outcome State Fault Refusal :=
  runAct (do let a ← look fun s => s.spAddress imm8; storeReg (lowReg rd) .word a false) s

/-- LDR(4) (R816). -/
def execThumbLdrSp (rd : LowReg) (imm8 : BitVec 8) (s : State) : Host.Outcome State Fault Refusal :=
  runAct (do let a ← look fun s => s.spAddress imm8; thumbLoadWord rd a) s

/-! ## Stack and multiple transfers (R817 to R819, R821) -/

/-- The list of PUSH: r0 to r7, and LR with R = 1 (R817). -/
def pushList (r : Bool) (list : BitVec 8) : BitVec 16 := list.setWidth 16 ||| (if r then 0x4000#16 else 0#16)

/-- The list of POP: r0 to r7, and the PC with R = 1 (R818). -/
def popList (r : Bool) (list : BitVec 8) : BitVec 16 := list.setWidth 16 ||| (if r then 0x8000#16 else 0#16)

/-- PUSH (R817). -/
def execThumbPush (r : Bool) (list : BitVec 8) (s : State) : Host.Outcome State Fault Refusal :=
  runAct
    (do
      unpredictableIf (pushList r list == 0#16) .blockList
      let sp ← look fun s => s.reg 13#4 - listBytes (pushList r list)
      let priv ← look State.privileged
      storeList State.reg priv (listRegs (pushList r list)) sp
      writeReg 13#4 sp)
    s

/-- POP (R818): the stack pointer, then the registers, then the PC. -/
def execThumbPop (r : Bool) (list : BitVec 8) (s : State) : Host.Outcome State Fault Refusal :=
  runAct
    (do
      unpredictableIf (popList r list == 0#16) .blockList
      let sp ← readReg 13#4
      let priv ← look State.privileged
      let vs ← loadList priv (listRegs (popList r list)) sp
      writeReg 13#4 (sp + listBytes (popList r list))
      change fun s => s.setRegs vs
      writeLoadedPc (loadedPc vs))
    s

/-- STMIA (R821): the base stores its original value. -/
def execThumbStmia (rn : LowReg) (list : BitVec 8) (s : State) : Host.Outcome State Fault Refusal :=
  runAct
    (do
      unpredictableIf (storeListRestricted true (lowReg rn) (list.setWidth 16)) .blockList
      let b ← readReg (lowReg rn)
      let priv ← look State.privileged
      storeList State.reg priv (listRegs (list.setWidth 16)) b
      writeReg (lowReg rn) (b + listBytes (list.setWidth 16)))
    s

/-- LDMIA (R819): a base in the list keeps its loaded value. -/
def execThumbLdmia (rn : LowReg) (list : BitVec 8) (s : State) : Host.Outcome State Fault Refusal :=
  runAct
    (do
      unpredictableIf (list == 0#8) .blockList
      let b ← readReg (lowReg rn)
      let priv ← look State.privileged
      let vs ← loadList priv (listRegs (list.setWidth 16)) b
      writeReg (lowReg rn) (b + listBytes (list.setWidth 16))
      change fun s => s.setRegs vs)
    s

end Sys2Proof.Machine
end

