-- ==== Sys2Proof/Machine/Dispatch.lean ====
section
/-! DEFINITION. What each instruction does: one arm per constructor (spec/60_exceptions.md R900, phase 5). -/

namespace Sys2Proof.Machine

def exec (i : Instr) (s : State) : Host.Outcome State Fault Refusal :=
  match i with
  | .armAnd c sf rn rd op2 => Sys2Proof.Machine.execArmAnd c sf rn rd op2 s
  | .armEor c sf rn rd op2 => Sys2Proof.Machine.execArmEor c sf rn rd op2 s
  | .armSub c sf rn rd op2 => Sys2Proof.Machine.execArmSub c sf rn rd op2 s
  | .armRsb c sf rn rd op2 => Sys2Proof.Machine.execArmRsb c sf rn rd op2 s
  | .armAdd c sf rn rd op2 => Sys2Proof.Machine.execArmAdd c sf rn rd op2 s
  | .armAdc c sf rn rd op2 => Sys2Proof.Machine.execArmAdc c sf rn rd op2 s
  | .armSbc c sf rn rd op2 => Sys2Proof.Machine.execArmSbc c sf rn rd op2 s
  | .armRsc c sf rn rd op2 => Sys2Proof.Machine.execArmRsc c sf rn rd op2 s
  | .armTst c rn sb op2 => Sys2Proof.Machine.execArmTst c rn sb op2 s
  | .armTeq c rn sb op2 => Sys2Proof.Machine.execArmTeq c rn sb op2 s
  | .armCmp c rn sb op2 => Sys2Proof.Machine.execArmCmp c rn sb op2 s
  | .armCmn c rn sb op2 => Sys2Proof.Machine.execArmCmn c rn sb op2 s
  | .armOrr c sf rn rd op2 => Sys2Proof.Machine.execArmOrr c sf rn rd op2 s
  | .armMov c sf sb rd op2 => Sys2Proof.Machine.execArmMov c sf sb rd op2 s
  | .armBic c sf rn rd op2 => Sys2Proof.Machine.execArmBic c sf rn rd op2 s
  | .armMvn c sf sb rd op2 => Sys2Proof.Machine.execArmMvn c sf sb rd op2 s
  | .armMul c sf rd sb rs rm => Sys2Proof.Machine.execArmMul c sf rd sb rs rm s
  | .armMla c sf rd rn rs rm => Sys2Proof.Machine.execArmMla c sf rd rn rs rm s
  | .armUmull c sf rdHi rdLo rs rm => Sys2Proof.Machine.execArmUmull c sf rdHi rdLo rs rm s
  | .armUmlal c sf rdHi rdLo rs rm => Sys2Proof.Machine.execArmUmlal c sf rdHi rdLo rs rm s
  | .armSmull c sf rdHi rdLo rs rm => Sys2Proof.Machine.execArmSmull c sf rdHi rdLo rs rm s
  | .armSmlal c sf rdHi rdLo rs rm => Sys2Proof.Machine.execArmSmlal c sf rdHi rdLo rs rm s
  | .armSmlaxy c rd rn rs y x rm => Sys2Proof.Machine.execArmSmlaxy c rd rn rs y x rm s
  | .armSmlawy c rd rn rs y rm => Sys2Proof.Machine.execArmSmlawy c rd rn rs y rm s
  | .armSmulwy c rd sb rs y rm => Sys2Proof.Machine.execArmSmulwy c rd sb rs y rm s
  | .armSmlalxy c rdHi rdLo rs y x rm => Sys2Proof.Machine.execArmSmlalxy c rdHi rdLo rs y x rm s
  | .armSmulxy c rd sb rs y x rm => Sys2Proof.Machine.execArmSmulxy c rd sb rs y x rm s
  | .armQadd c rn rd sb rm => Sys2Proof.Machine.execArmQadd c rn rd sb rm s
  | .armQsub c rn rd sb rm => Sys2Proof.Machine.execArmQsub c rn rd sb rm s
  | .armQdadd c rn rd sb rm => Sys2Proof.Machine.execArmQdadd c rn rd sb rm s
  | .armQdsub c rn rd sb rm => Sys2Proof.Machine.execArmQdsub c rn rd sb rm s
  | .armLdr c u ix rn rd off => Sys2Proof.Machine.execArmLdr c u ix rn rd off s
  | .armStr c u ix rn rd off => Sys2Proof.Machine.execArmStr c u ix rn rd off s
  | .armLdrb c u ix rn rd off => Sys2Proof.Machine.execArmLdrb c u ix rn rd off s
  | .armStrb c u ix rn rd off => Sys2Proof.Machine.execArmStrb c u ix rn rd off s
  | .armLdrt c u rn rd off => Sys2Proof.Machine.execArmLdrt c u rn rd off s
  | .armStrt c u rn rd off => Sys2Proof.Machine.execArmStrt c u rn rd off s
  | .armLdrbt c u rn rd off => Sys2Proof.Machine.execArmLdrbt c u rn rd off s
  | .armStrbt c u rn rd off => Sys2Proof.Machine.execArmStrbt c u rn rd off s
  | .armLdrh c p u w rn rd off => Sys2Proof.Machine.execArmLdrh c p u w rn rd off s
  | .armStrh c p u w rn rd off => Sys2Proof.Machine.execArmStrh c p u w rn rd off s
  | .armLdrsb c p u w rn rd off => Sys2Proof.Machine.execArmLdrsb c p u w rn rd off s
  | .armLdrsh c p u w rn rd off => Sys2Proof.Machine.execArmLdrsh c p u w rn rd off s
  | .armLdrd c p u w rn rd off => Sys2Proof.Machine.execArmLdrd c p u w rn rd off s
  | .armStrd c p u w rn rd off => Sys2Proof.Machine.execArmStrd c p u w rn rd off s
  | .armSwp c rn rd sb rm => Sys2Proof.Machine.execArmSwp c rn rd sb rm s
  | .armSwpb c rn rd sb rm => Sys2Proof.Machine.execArmSwpb c rn rd sb rm s
  | .armPldImm u rn sb offset12 => Sys2Proof.Machine.execArmPldImm u rn sb offset12 s
  | .armPldReg u rn sb amt kind rm => Sys2Proof.Machine.execArmPldReg u rn sb amt kind rm s
  | .armLdm1 c p u w rn list => Sys2Proof.Machine.execArmLdm1 c p u w rn list s
  | .armLdm2 c p u w rn list => Sys2Proof.Machine.execArmLdm2 c p u w rn list s
  | .armLdm3 c p u w rn list => Sys2Proof.Machine.execArmLdm3 c p u w rn list s
  | .armStm1 c p u w rn list => Sys2Proof.Machine.execArmStm1 c p u w rn list s
  | .armStm2 c p u w rn list => Sys2Proof.Machine.execArmStm2 c p u w rn list s
  | .armB c imm24 => Sys2Proof.Machine.execArmB c imm24 s
  | .armBl c imm24 => Sys2Proof.Machine.execArmBl c imm24 s
  | .armBx c sb rm => Sys2Proof.Machine.execArmBx c sb rm s
  | .armBlxImm h imm24 => Sys2Proof.Machine.execArmBlxImm h imm24 s
  | .armBlxReg c sb rm => Sys2Proof.Machine.execArmBlxReg c sb rm s
  | .armMrs c r sb19 rd sb11 sb3 => Sys2Proof.Machine.execArmMrs c r sb19 rd sb11 sb3 s
  | .armMsrReg c r mask sb rm => Sys2Proof.Machine.execArmMsrReg c r mask sb rm s
  | .armMsrImm c r mask sb rot imm8 => Sys2Proof.Machine.execArmMsrImm c r mask sb rot imm8 s
  | .armClz c sb19 rd sb11 rm => Sys2Proof.Machine.execArmClz c sb19 rd sb11 rm s
  | .armBkpt c immH immL => Sys2Proof.Machine.execArmBkpt c immH immL s
  | .armSwi c imm24 => Sys2Proof.Machine.execArmSwi c imm24 s
  | .armUndefined w => Sys2Proof.Machine.execArmUndefined w s
  | .armMcr c op1 crn rd cp op2 crm => Sys2Proof.Machine.execArmMcr c op1 crn rd cp op2 crm s
  | .armMrc c op1 crn rd cp op2 crm => Sys2Proof.Machine.execArmMrc c op1 crn rd cp op2 crm s
  | .armCdp c op1 crn crd cp op2 crm => Sys2Proof.Machine.execArmCdp c op1 crn crd cp op2 crm s
  | .armLdc c p u n w rn crd cp offset8 => Sys2Proof.Machine.execArmLdc c p u n w rn crd cp offset8 s
  | .armStc c p u n w rn crd cp offset8 => Sys2Proof.Machine.execArmStc c p u n w rn crd cp offset8 s
  | .armMcrr c rn rd cp op crm => Sys2Proof.Machine.execArmMcrr c rn rd cp op crm s
  | .armMrrc c rn rd cp op crm => Sys2Proof.Machine.execArmMrrc c rn rd cp op crm s
  | .armCdp2 op1 crn crd cp op2 crm => Sys2Proof.Machine.execArmCdp2 op1 crn crd cp op2 crm s
  | .armLdc2 p u n w rn crd cp offset8 => Sys2Proof.Machine.execArmLdc2 p u n w rn crd cp offset8 s
  | .armStc2 p u n w rn crd cp offset8 => Sys2Proof.Machine.execArmStc2 p u n w rn crd cp offset8 s
  | .armMcr2 op1 crn rd cp op2 crm => Sys2Proof.Machine.execArmMcr2 op1 crn rd cp op2 crm s
  | .armMrc2 op1 crn rd cp op2 crm => Sys2Proof.Machine.execArmMrc2 op1 crn rd cp op2 crm s
  | .thumbLslImm imm5 rm rd => Sys2Proof.Machine.execThumbLslImm imm5 rm rd s
  | .thumbLsrImm imm5 rm rd => Sys2Proof.Machine.execThumbLsrImm imm5 rm rd s
  | .thumbAsrImm imm5 rm rd => Sys2Proof.Machine.execThumbAsrImm imm5 rm rd s
  | .thumbAddReg rm rn rd => Sys2Proof.Machine.execThumbAddReg rm rn rd s
  | .thumbSubReg rm rn rd => Sys2Proof.Machine.execThumbSubReg rm rn rd s
  | .thumbAddImm3 imm3 rn rd => Sys2Proof.Machine.execThumbAddImm3 imm3 rn rd s
  | .thumbSubImm3 imm3 rn rd => Sys2Proof.Machine.execThumbSubImm3 imm3 rn rd s
  | .thumbMovImm rd imm8 => Sys2Proof.Machine.execThumbMovImm rd imm8 s
  | .thumbCmpImm rn imm8 => Sys2Proof.Machine.execThumbCmpImm rn imm8 s
  | .thumbAddImm8 rd imm8 => Sys2Proof.Machine.execThumbAddImm8 rd imm8 s
  | .thumbSubImm8 rd imm8 => Sys2Proof.Machine.execThumbSubImm8 rd imm8 s
  | .thumbAnd rm rd => Sys2Proof.Machine.execThumbAnd rm rd s
  | .thumbEor rm rd => Sys2Proof.Machine.execThumbEor rm rd s
  | .thumbLslReg rm rd => Sys2Proof.Machine.execThumbLslReg rm rd s
  | .thumbLsrReg rm rd => Sys2Proof.Machine.execThumbLsrReg rm rd s
  | .thumbAsrReg rm rd => Sys2Proof.Machine.execThumbAsrReg rm rd s
  | .thumbAdc rm rd => Sys2Proof.Machine.execThumbAdc rm rd s
  | .thumbSbc rm rd => Sys2Proof.Machine.execThumbSbc rm rd s
  | .thumbRor rm rd => Sys2Proof.Machine.execThumbRor rm rd s
  | .thumbTst rm rd => Sys2Proof.Machine.execThumbTst rm rd s
  | .thumbNeg rm rd => Sys2Proof.Machine.execThumbNeg rm rd s
  | .thumbCmpReg rm rd => Sys2Proof.Machine.execThumbCmpReg rm rd s
  | .thumbCmn rm rd => Sys2Proof.Machine.execThumbCmn rm rd s
  | .thumbOrr rm rd => Sys2Proof.Machine.execThumbOrr rm rd s
  | .thumbMul rm rd => Sys2Proof.Machine.execThumbMul rm rd s
  | .thumbBic rm rd => Sys2Proof.Machine.execThumbBic rm rd s
  | .thumbMvn rm rd => Sys2Proof.Machine.execThumbMvn rm rd s
  | .thumbAddHi h1 h2 rm rd => Sys2Proof.Machine.execThumbAddHi h1 h2 rm rd s
  | .thumbCmpHi h1 h2 rm rn => Sys2Proof.Machine.execThumbCmpHi h1 h2 rm rn s
  | .thumbMovHi h1 h2 rm rd => Sys2Proof.Machine.execThumbMovHi h1 h2 rm rd s
  | .thumbBx h2 rm sb => Sys2Proof.Machine.execThumbBx h2 rm sb s
  | .thumbBlxReg h2 rm sb => Sys2Proof.Machine.execThumbBlxReg h2 rm sb s
  | .thumbLdrPc rd imm8 => Sys2Proof.Machine.execThumbLdrPc rd imm8 s
  | .thumbStrReg rm rn rd => Sys2Proof.Machine.execThumbStrReg rm rn rd s
  | .thumbStrhReg rm rn rd => Sys2Proof.Machine.execThumbStrhReg rm rn rd s
  | .thumbStrbReg rm rn rd => Sys2Proof.Machine.execThumbStrbReg rm rn rd s
  | .thumbLdrsb rm rn rd => Sys2Proof.Machine.execThumbLdrsb rm rn rd s
  | .thumbLdrReg rm rn rd => Sys2Proof.Machine.execThumbLdrReg rm rn rd s
  | .thumbLdrhReg rm rn rd => Sys2Proof.Machine.execThumbLdrhReg rm rn rd s
  | .thumbLdrbReg rm rn rd => Sys2Proof.Machine.execThumbLdrbReg rm rn rd s
  | .thumbLdrsh rm rn rd => Sys2Proof.Machine.execThumbLdrsh rm rn rd s
  | .thumbStrImm imm5 rn rd => Sys2Proof.Machine.execThumbStrImm imm5 rn rd s
  | .thumbLdrImm imm5 rn rd => Sys2Proof.Machine.execThumbLdrImm imm5 rn rd s
  | .thumbStrbImm imm5 rn rd => Sys2Proof.Machine.execThumbStrbImm imm5 rn rd s
  | .thumbLdrbImm imm5 rn rd => Sys2Proof.Machine.execThumbLdrbImm imm5 rn rd s
  | .thumbStrhImm imm5 rn rd => Sys2Proof.Machine.execThumbStrhImm imm5 rn rd s
  | .thumbLdrhImm imm5 rn rd => Sys2Proof.Machine.execThumbLdrhImm imm5 rn rd s
  | .thumbStrSp rd imm8 => Sys2Proof.Machine.execThumbStrSp rd imm8 s
  | .thumbLdrSp rd imm8 => Sys2Proof.Machine.execThumbLdrSp rd imm8 s
  | .thumbAddPc rd imm8 => Sys2Proof.Machine.execThumbAddPc rd imm8 s
  | .thumbAddSp rd imm8 => Sys2Proof.Machine.execThumbAddSp rd imm8 s
  | .thumbAddSpImm7 imm7 => Sys2Proof.Machine.execThumbAddSpImm7 imm7 s
  | .thumbSubSpImm7 imm7 => Sys2Proof.Machine.execThumbSubSpImm7 imm7 s
  | .thumbPush r list => Sys2Proof.Machine.execThumbPush r list s
  | .thumbPop r list => Sys2Proof.Machine.execThumbPop r list s
  | .thumbStmia rn list => Sys2Proof.Machine.execThumbStmia rn list s
  | .thumbLdmia rn list => Sys2Proof.Machine.execThumbLdmia rn list s
  | .thumbBkpt imm8 => Sys2Proof.Machine.execThumbBkpt imm8 s
  | .thumbUndefined h => Sys2Proof.Machine.execThumbUndefined h s
  | .thumbSwi imm8 => Sys2Proof.Machine.execThumbSwi imm8 s
  | .thumbBCond c imm8 => Sys2Proof.Machine.execThumbBCond c imm8 s
  | .thumbB imm11 => Sys2Proof.Machine.execThumbB imm11 s
  | .thumb32Bl sgn imm10 j1 j2 imm11 => Sys2Proof.Machine.execThumb32Bl sgn imm10 j1 j2 imm11 s
  | .thumb32BlxImm sgn imm10H j1 j2 imm10L h => Sys2Proof.Machine.execThumb32BlxImm sgn imm10H j1 j2 imm10L h s
  | .thumb32BT4 sgn imm10 j1 j2 imm11 => Sys2Proof.Machine.execThumb32BT4 sgn imm10 j1 j2 imm11 s
  | .thumb32Udf imm4 imm12 => Sys2Proof.Machine.execThumb32Udf imm4 imm12 s
  | .thumb32Smc imm4 free12 => Sys2Proof.Machine.execThumb32Smc imm4 free12 s
  | .thumb32Msr free5 free13 free12 => Sys2Proof.Machine.execThumb32Msr free5 free13 free12 s
  | .thumb32Hint free4 free13 free12 => Sys2Proof.Machine.execThumb32Hint free4 free13 free12 s
  | .thumb32MiscCtl free4 free13 free12 => Sys2Proof.Machine.execThumb32MiscCtl free4 free13 free12 s
  | .thumb32Bxj free4 free13 free12 => Sys2Proof.Machine.execThumb32Bxj free4 free13 free12 s
  | .thumb32SubsPcLr free4 free13 free12 => Sys2Proof.Machine.execThumb32SubsPcLr free4 free13 free12 s
  | .thumb32Mrs free5 free13 free12 => Sys2Proof.Machine.execThumb32Mrs free5 free13 free12 s
  | .thumb32BrMiscUndef opm free4 free13 free12 => Sys2Proof.Machine.execThumb32BrMiscUndef opm free4 free13 free12 s
  | .thumb32BT3 sgn cond imm6 j1 j2 imm11 => Sys2Proof.Machine.execThumb32BT3 sgn cond imm6 j1 j2 imm11 s
  | .thumb32DpImm free11 free15 => Sys2Proof.Machine.execThumb32DpImm free11 free15 s
  | .thumb32Space01 free27 => Sys2Proof.Machine.execThumb32Space01 free27 s
  | .thumb32Space11 free27 => Sys2Proof.Machine.execThumb32Space11 free27 s

end Sys2Proof.Machine
end

