-- ==== Sys2Proof/Machine/Fetch.lean ====
section
/-! DEFINITION. The phases of a step around the execution of an instruction (spec/60_exceptions.md R900, R930, R931;
spec/30_encoding.md R300; spec/10_state.md R110), and the placing of an instruction where the next step fetches. -/

namespace Sys2Proof.Machine

/-! ## Before the fetch -/

/-- The interrupt lines of this step (R930): low past the end of the schedule. -/
def State.currentLines (s : State) : Lines := s.lines.headD ⟨false, false⟩

/-- The state with this step's lines sampled: the schedule moves on (R930). -/
def State.sampled (s : State) : State := { s with lines := s.lines.tail }

/-- A waiting core that neither line wakes (R900, R950). -/
def State.idle (s : State) (l : Lines) : Bool := s.waiting && !(l.irq || l.fiq)

/-- Phase 1 (R900): the one pending exception is cleared and entered. -/
def State.dispatch (s : State) : State :=
  match s.pending.first with
  | some k => { s with pending := s.pending.set k none }.enterException k
  | none => s

/-- Phase 2 (R931): FIQ, then IRQ, each gated by its mask. -/
def sampleLines (l : Lines) : Act Unit := fun s =>
  if l.fiq && !psrF s.cpsr then raise .fiq .fiqLine s
  else if l.irq && !psrI s.cpsr then raise .irq .irqLine s
  else .ok ((), s)

/-! ## Fetch (R300) -/

/-- Fetch(): an ARM word, a Thumb halfword, or the two halfwords of a 32-bit Thumb instruction. -/
def fetch : Act Code := do
  let pc ← look State.pc
  let t ← look fun s => psrT s.cpsr
  if t then
    let h1 ← fetchRead pc .half
    let hw1 := h1.setWidth 16
    if isThumb32Prefix hw1 then
      let h2 ← fetchRead (pc + 2#32) .half
      pure (.thumb32 (hw1 ++ h2.setWidth 16))
    else pure (.thumb hw1)
  else
    let w ← fetchRead pc .word
    pure (.arm w)

/-! ## After the execution -/

/-- Phase 6 (R110): the PC advances by the instruction's length, unless the instruction wrote it. -/
def State.advance (s : State) (len : Word) : State := if s.jumped then s else { s with pc := s.pc + len }

/-- The end of every step: the sticky fault flag and the jumped flag are cleared (R900). -/
def State.endStep (s : State) : State := { s with faultFlag := false, jumped := false }

/-- The end of a step that executed an instruction of length len from the state before: an instruction that
raised (a pending slot has changed, R905) leaves the PC (R110), any other advances it. -/
def afterExec (len : Word) (before : State) (o : Host.Outcome State Fault Refusal) :
    Host.Outcome State Fault Refusal :=
  match o with
  | .next s => if s.pending = before.pending then .next (s.advance len).endStep else .next s.endStep
  | .fault f => .fault f
  | .refused r => .refused r

/-! ## Placing an instruction where the next step fetches (log entry 13) -/

/-- The bytes of an instruction, and zeros up to four bytes (R302), in memory at an address: an ARM word as one
word, Thumb halfwords at rising addresses (R202, R300). -/
def writeCode (c : Code) (a : Word) (m : Memory) : Memory :=
  match c with
  | .arm w => m.write .word a w
  | .thumb h => (m.write .half a (h.setWidth 32)).write .half (a + 2#32) 0#32
  | .thumb32 w => (m.write .half a ((w.extractLsb' 16 16).setWidth 32)).write .half (a + 2#32) w

/-- The bus holes that a four-byte fetch at an address does not meet. -/
def clearHoles (a : Word) (bus : List BusHole) : List BusHole :=
  bus.filter fun h => !(h.reads && decide (h.first ≤ a.toNat + 3) && decide (a.toNat ≤ h.last))

/-- The state in which nothing precedes the next step's fetch: not waiting, the lines low, and, for a Thumb
instruction, a pending exception entered already, since its entry selects ARM state. -/
def State.readyToFetch (s : State) (thumb : Bool) : State :=
  let quiet := { s with
    waiting := false
    faultFlag := false
    jumped := false
    lines := match s.lines with | [] => [] | _ :: rest => ⟨false, false⟩ :: rest }
  if thumb then quiet.dispatch else quiet

/-- Where the next step fetches: at the vector of a pending exception, else at the PC (R900). -/
def State.fetchAddress (s : State) : Word := s.dispatch.pc

/-- The state with an instruction's code where the next step fetches, in the instruction set that fetches it, the
MMU off (control M clear) so that the address is physical. -/
def State.placeCode (s : State) (c : Code) : State :=
  let r := s.readyToFetch c.isThumb
  let a := r.fetchAddress
  { r with
    cpsr := withT r.cpsr c.isThumb
    control := r.control &&& 0xFFFFFFFE#32
    bus := clearHoles a r.bus
    mem := writeCode c a r.mem }

end Sys2Proof.Machine
end

