-- ==== Sys2Proof/Machine/Step.lean ====
section
/-! DEFINITION. One step of the core (spec/60_exceptions.md R900). -/

namespace Sys2Proof.Machine

/-- A step of a core that is not idle: dispatch, sampling, fetch, decode, execute, advance (R900). -/
def activeStep (l : Lines) (s : State) : Host.Outcome State Fault Refusal :=
  match (do sampleLines l; fetch : Act Code) s.dispatch with
  | .error (.raised t) => .next t.endStep
  | .error (.fault f) => .fault f
  | .error (.refused r) => .refused r
  | .ok (code, t) =>
    match decode code with
    | .ok i => afterExec code.len t (exec i t)
    | .error _ => .refused .undecodable

/-- Step() (R900): the lines are read once, at the start; an idle step changes nothing else. -/
def step (s : State) : Host.Outcome State Fault Refusal :=
  if s.sampled.idle s.currentLines then .next s.sampled
  else activeStep s.currentLines { s.sampled with waiting := false }

/-- The state with the instruction of an opcode table's word where the next step fetches (log entry 13). -/
def State.withFetchWord (s : State) (nbits w : Nat) : State :=
  match tableCode nbits w with
  | some c => s.placeCode c
  | none => s

end Sys2Proof.Machine
end

