-- ==== Sys2Proof/Safety.lean ====
section
/-! DEFINITION. What the claims speak of: accesses that succeed or abort, the invariants of every step, and the parts of the
state that privilege protects. -/

namespace Sys2Proof.Machine

/-! ## Accesses that succeed (R204 to R206) -/

/-- A load of size n at virtual address a is answered from the unit of physical address pa (R204). -/
def State.loadsAt (s : State) (a : Word) (n : AccSize) (priv : Bool) (pa : Word) : Prop :=
  s.faultFlag = false ∧ s.translation a n priv true = .ok pa ∧ tryRead s n (n.align pa) = true

/-- A store of size n at virtual address a goes to the unit of physical address pa (R205). -/
def State.storesAt (s : State) (a : Word) (n : AccSize) (priv : Bool) (pa : Word) : Prop :=
  s.faultFlag = false ∧ s.translation a n priv false = .ok pa ∧ tryWrite s n (n.align pa) = true

/-- What a data access of size n at virtual address a leaves where it aborts: an MMU fault writes FSR and FAR, a failed
probe neither, and both request DataAbort (R204, R205, R224). -/
def State.abortsAt (s : State) (a : Word) (n : AccSize) (priv isRead : Bool) (t : State) : Prop :=
  (∃ st dom, s.translation a n priv isRead = .fault st dom
      ∧ t = (s.recordFault a st dom).request .dataAbort .mmuFault)
    ∨ ∃ pa, s.translation a n priv isRead = .ok pa
      ∧ (if isRead then tryRead s n (n.align pa) else tryWrite s n (n.align pa)) = false
      ∧ t = s.request .dataAbort (if isRead then .busRead else .busWrite)

/-- A fetch of size n at virtual address a is answered from physical address pa (R206). -/
def State.fetchesAt (s : State) (a : Word) (n : AccSize) (pa : Word) : Prop :=
  s.faultFlag = false ∧ s.translation a n s.privileged true = .ok pa ∧ tryRead s n pa = true

/-- The words loaded for a list of registers at ascending addresses, where every one of those loads succeeds
(R552). -/
def State.loadWords (s : State) (priv : Bool) : List RegNum → Word → Option (List (RegNum × Word))
  | [], _ => some []
  | r :: rs, a =>
    match s.translation a .word priv true with
    | .ok pa =>
      if tryRead s .word (AccSize.word.align pa) then
        (s.loadWords priv rs (a + 4#32)).map fun vs => (r, s.mem.read .word (AccSize.word.align pa)) :: vs
      else none
    | .fault _ _ => none
    | .refused _ => none

/-- The state after a list of words is stored at ascending addresses, where every one of those stores succeeds;
each translation sees the words stored before it (R552). -/
def storeWords (priv : Bool) : State → List Word → Word → Option State
  | s, [], _ => some s
  | s, v :: vs, a =>
    match s.translation a .word priv false with
    | .ok pa =>
      if tryWrite s .word (AccSize.word.align pa) then
        storeWords priv (s.store .word (AccSize.word.align pa) v) vs (a + 4#32)
      else none
    | .fault _ _ => none
    | .refused _ => none

/-- An address outside the n bytes of the aligned unit at pa. -/
def outsideUnit (n : AccSize) (pa : Word) (a : Nat) : Prop :=
  a < (n.align pa).toNat ∨ (n.align pa).toNat + n.bytes ≤ a

/-! ## Results -/

/-- The state with a write-back value written to the base, or as it was (R501). -/
def State.writtenBack (s : State) (rn : RegNum) (wb : Option Word) : State :=
  match wb with
  | none => s
  | some v => s.setReg rn v

/-- The state after a logical result r with shifter carry sc is written to Rd, the flags with it when S is 1
(R406). -/
def State.logicalTo (s : State) (sf : Bool) (rd : RegNum) (r : Word) (sc : Bool) : State :=
  { s.setReg rd r with cpsr := if sf then logicFlags s.cpsr r sc else s.cpsr }

/-- The state after an arithmetic result is written to Rd, the flags with it when S is 1 (R406). -/
def State.arithTo (s : State) (sf : Bool) (rd : RegNum) (o : AluOut) : State :=
  { s.setReg rd o.result with cpsr := if sf then arithFlags s.cpsr o else s.cpsr }

/-- The state after a value is loaded to the PC (R109): bit 0 selects Thumb state and is cleared, a word-aligned
value selects ARM state; none for a value ending in 10. -/
def State.exchangeTo (s : State) (v : Word) : Option State :=
  if v.getLsbD 0 then some ({ s with cpsr := withT s.cpsr true }.jump (v &&& 0xFFFFFFFE#32))
  else if v.getLsbD 1 then none
  else some ({ s with cpsr := withT s.cpsr false }.jump v)

/-- The state after a data-processing result is written to the PC (R109): none for a misaligned one in ARM
state. -/
def State.aluTo (s : State) (v : Word) : Option State :=
  if psrT s.cpsr then some (s.jump (v &&& 0xFFFFFFFE#32))
  else if v.extractLsb' 0 2 = 0b00#2 then some (s.jump v)
  else none

/-! ## Invariants -/

/-- The CPSR's mode field is one of the seven modes (R101, R111). -/
def State.modeLegal (s : State) : Prop := (Mode.ofBits (psrM s.cpsr)).isSome = true

/-- The PC is word aligned in ARM state and halfword aligned in Thumb state (R107). -/
def State.pcAligned (s : State) : Prop :=
  if psrT s.cpsr then s.pc.getLsbD 0 = false else s.pc.extractLsb' 0 2 = 0b00#2

/-- The control register's fixed bits: [6:4] read 111, bits 7, 15 and [31:16] read 0 (R123). -/
def State.controlFixed (s : State) : Prop := s.control &&& 0xFFFF80F0#32 = 0x00000070#32

/-- At most one exception is raised and not yet consumed (R140, R905). -/
def State.onePending (s : State) : Prop :=
  ∀ k, s.pending.first = some k → s.pending.set k none = Pending.empty

/-- The transient flags between steps: the sticky fault flag and the jumped flag are clear (R900). -/
def State.flagsClear (s : State) : Prop := s.faultFlag = false ∧ s.jumped = false

/-- The invariant of a core between steps. -/
def State.Inv (s : State) : Prop :=
  s.mem.wf = true ∧ s.modeLegal ∧ s.pcAligned ∧ s.controlFixed ∧ s.onePending ∧ s.flagsClear

/-! ## What User mode cannot change (R940, R941) -/

/-- Two states with the same mode, interrupt masks, instruction-set-independent control state and exception-mode
registers: what no instruction of User mode changes. -/
def samePrivileged (s t : State) : Prop :=
  psrM t.cpsr = psrM s.cpsr ∧ psrI t.cpsr = psrI s.cpsr ∧ psrF t.cpsr = psrF s.cpsr ∧ t.spsr = s.spsr
    ∧ t.control = s.control ∧ t.ttb = s.ttb ∧ t.dacr = s.dacr ∧ t.waiting = s.waiting
    ∧ ∀ p : PhysReg,
      p ∈ [PhysReg.r8fiq, .r9fiq, .r10fiq, .r11fiq, .r12fiq, .r13fiq, .r14fiq, .r13irq, .r14irq, .r13svc,
        .r14svc, .r13abt, .r14abt, .r13und, .r14und] → t.regs.get p = s.regs.get p

/-- Two states with the same parameters of R8 and the same bus. -/
def sameParameters (s t : State) : Prop :=
  t.midr = s.midr ∧ t.ctr = s.ctr ∧ t.irqLrOffset = s.irqLrOffset ∧ t.absentCp = s.absentCp ∧ t.bus = s.bus

end Sys2Proof.Machine
end

