-- ==== Sys2Proof/Certificates/Slice0/Obligations.lean ====
section
/-! DEFINITION. The statements about the model, for the provers. Each docstring names the rules of spec/ a statement
rests on; OBLIGATIONS.json holds the list. -/

open Sys2Proof Sys2Proof.Machine

/-- The instruction ends in the stop Unpredictable, whatever the diagnostic (R11). -/
def stopsUnpredictable (i : Instr) (s : State) : Prop := ∃ why, exec i s = .refused (.unpredictable why)

/-! ## Encoding -/

/-- Decoding an encoded well-formed instruction gives it back, every operand at every value (R303 to R351).
Rests on the spec's own decisions D3 (R306), D13 (R350). -/
def Obligations.DecodeOfEncode : Prop :=
  ∀ i : Instr, i.wellFormed = true → decode (encode i) = .ok i

/-- Every ARM word, and every halfword and pair of halfwords that fetch can deliver in Thumb state, decodes to exactly
one well-formed instruction, which encodes back to it (R304). -/
def Obligations.EveryWordDecodes : Prop :=
  (∀ w : Word, (decodeArm w).wellFormed = true ∧ encode (decodeArm w) = .arm w)
    ∧ (∀ h : Half, isThumb32Prefix h = false →
        (decodeThumb h).wellFormed = true ∧ encode (decodeThumb h) = .thumb h)
    ∧ ∀ w : Word, isThumb32Prefix (w.extractLsb' 16 16) = true →
        ∃ i, decode (.thumb32 w) = .ok i ∧ i.wellFormed = true ∧ encode i = .thumb32 w

/-- The bytes of a well-formed instruction, as memory holds them, decode to it and leave the bytes after it (R202,
R300, R302).
Rests on the spec's own decisions D1 (R202), D12 (R300). -/
def Obligations.DecodeOfBytes : Prop :=
  ∀ (i : Instr) (rest : List Byte), i.wellFormed = true →
    decodeBytes (encode i).isThumb ((encode i).bytes ++ rest) = .ok (i, rest)

/-- A few words of the spec's own examples decode to the instructions they stand for. -/
def Obligations.SampleWords : Prop :=
  decode (.arm 0xE0910002#32) = .ok (.armAdd .al true 1#4 0#4 (.immShift 2#4 .lsl 0#5))
    ∧ decode (.arm 0xE5210004#32) = .ok (.armStr .al false .preIndexed 1#4 0#4 (.imm 4#12))
    ∧ decode (.arm 0xE8BD8010#32) = .ok (.armLdm1 .al false true true 13#4 0x8010#16)
    ∧ decode (.arm 0xE121F000#32) = .ok (.armMsrReg .al false 1#4 0xF0#8 0#4)
    ∧ decode (.arm 0xEE010F10#32) = .ok (.armMcr .al 0#3 1#4 0#4 15#4 0#3 0#4)
    ∧ decode (.thumb 0xB510#16) = .ok (.thumbPush true 0x10#8)
    ∧ decode (.thumb 0x4480#16) = .ok (.thumbAddHi true false 0#3 0#3)
    ∧ decode (.thumb32 0xF000F802#32) = .ok (.thumb32Bl false 0#10 true true 2#11)

/-! ## The step -/

/-- When no exception is pending, no line is taken and the bytes at the PC decode to an instruction, a step is that
instruction's execution, then the PC's advance by its length unless it wrote the PC or raised, then the clearing of
the transient flags (R110, R300, R900).
Rests on the spec's own decisions D4 (R110), D5 (R900), D12 (R300), D18 (R900), D45 (R110). -/
def Obligations.StepRunsDecodedInstruction : Prop :=
  ∀ (s : State) (i : Instr) (len pa pa2 : Word),
    s.waiting = false → s.pending = Pending.empty →
    (s.currentLines.fiq && !psrF s.cpsr) = false → (s.currentLines.irq && !psrI s.cpsr) = false →
    (let b (a : Word) (k : Nat) : Byte := s.mem.readByte (a.toNat + k)
     (psrT s.cpsr = false ∧ len = 4#32 ∧ s.fetchesAt s.pc .word pa
        ∧ decodeBytes false [b pa 0, b pa 1, b pa 2, b pa 3] = .ok (i, []))
      ∨ (psrT s.cpsr = true ∧ len = 2#32 ∧ s.fetchesAt s.pc .half pa
        ∧ decodeBytes true [b pa 0, b pa 1] = .ok (i, []))
      ∨ (psrT s.cpsr = true ∧ len = 4#32 ∧ s.fetchesAt s.pc .half pa ∧ s.fetchesAt (s.pc + 2#32) .half pa2
        ∧ decodeBytes true [b pa 0, b pa 1, b pa2 0, b pa2 1] = .ok (i, []))) →
    step s =
      match exec i s.sampled with
      | .next t =>
        if t.pending = Pending.empty then
          .next { t with pc := if t.jumped then t.pc else t.pc + len, faultFlag := false, jumped := false }
        else .next { t with faultFlag := false, jumped := false }
      | .fault f => .fault f
      | .refused r => .refused r

/-- The sixteen conditions (R114), and the no-op that a failed one makes of every instruction that has one: nothing
changes and the PC advances. BKPT has a condition field but is not conditional (R655); an UNDEFINED word outside the
cond = 1111 space is conditional (R657).
Rests on the spec's own decisions D14 (R655), D25 (R114, R657). -/
def Obligations.ConditionRule : Prop :=
  (∀ p : Word,
    condPassed .eq p = p.getLsbD 30 ∧ condPassed .ne p = !p.getLsbD 30
    ∧ condPassed .cs p = p.getLsbD 29 ∧ condPassed .cc p = !p.getLsbD 29
    ∧ condPassed .mi p = p.getLsbD 31 ∧ condPassed .pl p = !p.getLsbD 31
    ∧ condPassed .vs p = p.getLsbD 28 ∧ condPassed .vc p = !p.getLsbD 28
    ∧ condPassed .hi p = (p.getLsbD 29 && !p.getLsbD 30) ∧ condPassed .ls p = (!p.getLsbD 29 || p.getLsbD 30)
    ∧ condPassed .ge p = (p.getLsbD 31 == p.getLsbD 28) ∧ condPassed .lt p = (p.getLsbD 31 != p.getLsbD 28)
    ∧ condPassed .gt p = (!p.getLsbD 30 && (p.getLsbD 31 == p.getLsbD 28))
    ∧ condPassed .le p = (p.getLsbD 30 || (p.getLsbD 31 != p.getLsbD 28))
    ∧ condPassed .al p = true ∧ condPassed .nv p = false)
  ∧ ∀ (i : Instr) (c : Cond) (s : State) (len : Word), condPassed c s.cpsr = false →
      (i.condOf = some c ∧ ∀ h l, i ≠ .armBkpt c h l)
        ∨ (∃ w : Word, i = .armUndefined w ∧ w.extractLsb' 28 4 ≠ 0xF#4 ∧ c = .ofBits (w.extractLsb' 28 4)) →
      exec i s = .next s ∧ afterExec len s (exec i s) = .next (s.advance len).endStep

/-! ## Flags, adder and shifter -/

/-- What each flag write leaves in every bit of the CPSR: the flags it names and nothing else (R111, R113, R406).
Rests on the spec's own decisions D42 (R111). -/
def Obligations.FlagWrites : Prop :=
  ∀ (p : Word) (o : AluOut) (r : Word) (d : DWord) (sc : Bool) (j : Nat), j < 32 →
    (arithFlags p o).getLsbD j
      = (if j = 31 then o.result.msb else if j = 30 then decide (o.result = 0#32) else if j = 29 then o.carry
        else if j = 28 then o.overflow else p.getLsbD j)
    ∧ (logicFlags p r sc).getLsbD j
      = (if j = 31 then r.msb else if j = 30 then decide (r = 0#32) else if j = 29 then sc else p.getLsbD j)
    ∧ (nzFlags p r).getLsbD j
      = (if j = 31 then r.msb else if j = 30 then decide (r = 0#32) else p.getLsbD j)
    ∧ (nzFlags64 p d).getLsbD j
      = (if j = 31 then d.msb else if j = 30 then decide (d = 0#64) else p.getLsbD j)

/-- The adder: the exact sum modulo 2^32, the carry of the unsigned sum, the overflow of the signed one; as a
subtraction, with carry or without, its result is the difference, its carry NOT borrow and its overflow that of the
difference (R405). -/
def Obligations.AdderIsExact : Prop :=
  ∀ (a b : Word) (c : Bool),
    (addWithCarry a b c).result = BitVec.ofNat 32 (a.toNat + b.toNat + c.toNat)
    ∧ ((addWithCarry a b c).carry = true ↔ 2 ^ 32 ≤ a.toNat + b.toNat + c.toNat)
    ∧ ((addWithCarry a b c).overflow = true ↔
        (a.msb = b.msb ∧ (addWithCarry a b c).result.msb ≠ a.msb))
    ∧ ((addWithCarry a b c).overflow = true ↔
        (a.toInt + b.toInt + c.toNat < -2 ^ 31 ∨ 2 ^ 31 ≤ a.toInt + b.toInt + c.toNat))
    ∧ (addWithCarry a b false).result = a + b
    ∧ (addWithCarry a (~~~b) true).result = a - b
    ∧ ((addWithCarry a (~~~b) c).carry = true ↔ b.toNat + (!c).toNat ≤ a.toNat)
    ∧ ((addWithCarry a (~~~b) c).overflow = true ↔
        (a.toInt - b.toInt - (!c).toNat < -2 ^ 31 ∨ 2 ^ 31 ≤ a.toInt - b.toInt - (!c).toNat))

/-- Every register shift by 1 to 255 in exact arithmetic with the last bit shifted out as its carry, the shift by 0,
and the immediate shifts as register shifts, an amount of 0 meaning 32, or RRX for ROR; the shifter operand of each
form: an immediate rotated right by twice its rotation, with its bit 31 as carry unless the rotation is 0, and a
register shifted by an immediate or by the low byte of a register (R400 to R403).
Rests on the spec's own decisions D3 (R403). -/
def Obligations.ShiftsAreExact : Prop :=
  (∀ (s : Byte) (v : Word) (c : Bool), s ≠ 0#8 →
    ((shiftReg .lsl s v c).value.toNat = v.toNat * 2 ^ s.toNat % 2 ^ 32
      ∧ (shiftReg .lsl s v c).carry = (decide (s.toNat ≤ 32) && v.getLsbD (32 - s.toNat)))
    ∧ ((shiftReg .lsr s v c).value.toNat = v.toNat / 2 ^ s.toNat
      ∧ (shiftReg .lsr s v c).carry = v.getLsbD (s.toNat - 1))
    ∧ ((shiftReg .asr s v c).value.toInt = v.toInt / 2 ^ s.toNat
      ∧ (shiftReg .asr s v c).carry = v.getLsbD (min s.toNat 32 - 1))
    ∧ ((∀ i, i < 32 → (shiftReg .ror s v c).value.getLsbD i = v.getLsbD ((i + s.toNat) % 32))
      ∧ (shiftReg .ror s v c).carry = v.getLsbD ((s.toNat - 1) % 32)))
  ∧ (∀ (k : ShiftKind) (v : Word) (c : Bool), shiftReg k 0#8 v c = ⟨v, c⟩)
  ∧ (∀ (k : ShiftKind) (n : BitVec 5) (v : Word) (c : Bool), n ≠ 0#5 →
      shiftImm k n v c = shiftReg k (n.setWidth 8) v c)
  ∧ (∀ (v : Word) (c : Bool),
      shiftImm .lsl 0#5 v c = ⟨v, c⟩ ∧ shiftImm .lsr 0#5 v c = shiftReg .lsr 32#8 v c
      ∧ shiftImm .asr 0#5 v c = shiftReg .asr 32#8 v c
      ∧ (shiftImm .ror 0#5 v c).value.toNat = (if c then 2 ^ 31 else 0) + v.toNat / 2
      ∧ (shiftImm .ror 0#5 v c).carry = v.getLsbD 0)
  ∧ ∀ (s : State) (k : ShiftKind) (rm rs : RegNum) (n : BitVec 5) (rot : BitVec 4) (imm8 : BitVec 8),
      s.shifterOperand (.immShift rm k n) = shiftImm k n (s.reg rm) (s.cpsr.getLsbD 29)
      ∧ s.shifterOperand (.regShift rm k rs)
        = shiftReg k (BitVec.ofNat 8 (s.reg rs).toNat) (s.reg rm) (s.cpsr.getLsbD 29)
      ∧ (s.shifterOperand (.imm rot imm8)).value = rotatedImm rot imm8
      ∧ (∀ i, i < 32 → (rotatedImm rot imm8).getLsbD i = imm8.getLsbD ((i + 2 * rot.toNat) % 32))
      ∧ (s.shifterOperand (.imm rot imm8)).carry
        = if rot = 0#4 then s.cpsr.getLsbD 29 else (rotatedImm rot imm8).getLsbD 31

/-! ## ARM data processing -/

/-- AND, EOR, ORR, BIC, MOV and MVN into a register other than r15: the result, the flags when S is 1, and nothing
else; r15 in a register-shift form stops, and so does a should-be-zero field that is not zero (R306, R403, R406, R410,
R411, R422 to R425).
Rests on the spec's own decisions D3 (R306, R403). -/
def Obligations.LogicalResult : Prop :=
  ∀ (s : State) (c : Cond) (sf : Bool) (rn rd : RegNum) (op2 : Operand2), condPassed c s.cpsr = true →
    (let v := (s.shifterOperand op2).value
     let sc := (s.shifterOperand op2).carry
     (regShiftUsesPc rn rd op2 = false → rd ≠ 15#4 →
        exec (.armAnd c sf rn rd op2) s = .next (s.logicalTo sf rd (s.reg rn &&& v) sc)
        ∧ exec (.armEor c sf rn rd op2) s = .next (s.logicalTo sf rd (s.reg rn ^^^ v) sc)
        ∧ exec (.armOrr c sf rn rd op2) s = .next (s.logicalTo sf rd (s.reg rn ||| v) sc)
        ∧ exec (.armBic c sf rn rd op2) s = .next (s.logicalTo sf rd (s.reg rn &&& ~~~v) sc))
     ∧ (regShiftUsesPc 0#4 rd op2 = false → rd ≠ 15#4 →
        exec (.armMov c sf 0#4 rd op2) s = .next (s.logicalTo sf rd v sc)
        ∧ exec (.armMvn c sf 0#4 rd op2) s = .next (s.logicalTo sf rd (~~~v) sc)))
    ∧ (regShiftUsesPc rn rd op2 = true →
        exec (.armAnd c sf rn rd op2) s = .refused (.unpredictable .r15RegisterShift)
        ∧ exec (.armEor c sf rn rd op2) s = .refused (.unpredictable .r15RegisterShift)
        ∧ exec (.armOrr c sf rn rd op2) s = .refused (.unpredictable .r15RegisterShift)
        ∧ exec (.armBic c sf rn rd op2) s = .refused (.unpredictable .r15RegisterShift))
    ∧ (regShiftUsesPc 0#4 rd op2 = true →
        exec (.armMov c sf 0#4 rd op2) s = .refused (.unpredictable .r15RegisterShift)
        ∧ exec (.armMvn c sf 0#4 rd op2) s = .refused (.unpredictable .r15RegisterShift))
    ∧ ∀ sb : BitVec 4, sb ≠ 0#4 →
        stopsUnpredictable (.armMov c sf sb rd op2) s ∧ stopsUnpredictable (.armMvn c sf sb rd op2) s

/-- SUB, RSB, ADD, ADC, SBC and RSC into a register other than r15: the sum of the rule's operands and carry, the
flags when S is 1, and nothing else; r15 in a register-shift form stops (R403, R405, R406, R412 to R417).
Rests on the spec's own decisions D3 (R403). -/
def Obligations.ArithmeticResult : Prop :=
  ∀ (s : State) (c : Cond) (sf : Bool) (rn rd : RegNum) (op2 : Operand2), condPassed c s.cpsr = true →
    (let v := (s.shifterOperand op2).value
     let a := s.reg rn
     let cf := s.cpsr.getLsbD 29
     regShiftUsesPc rn rd op2 = false → rd ≠ 15#4 →
        exec (.armSub c sf rn rd op2) s = .next (s.arithTo sf rd (addWithCarry a (~~~v) true))
        ∧ exec (.armRsb c sf rn rd op2) s = .next (s.arithTo sf rd (addWithCarry v (~~~a) true))
        ∧ exec (.armAdd c sf rn rd op2) s = .next (s.arithTo sf rd (addWithCarry a v false))
        ∧ exec (.armAdc c sf rn rd op2) s = .next (s.arithTo sf rd (addWithCarry a v cf))
        ∧ exec (.armSbc c sf rn rd op2) s = .next (s.arithTo sf rd (addWithCarry a (~~~v) cf))
        ∧ exec (.armRsc c sf rn rd op2) s = .next (s.arithTo sf rd (addWithCarry v (~~~a) cf)))
    ∧ (regShiftUsesPc rn rd op2 = true →
        exec (.armSub c sf rn rd op2) s = .refused (.unpredictable .r15RegisterShift)
        ∧ exec (.armRsb c sf rn rd op2) s = .refused (.unpredictable .r15RegisterShift)
        ∧ exec (.armAdd c sf rn rd op2) s = .refused (.unpredictable .r15RegisterShift)
        ∧ exec (.armAdc c sf rn rd op2) s = .refused (.unpredictable .r15RegisterShift)
        ∧ exec (.armSbc c sf rn rd op2) s = .refused (.unpredictable .r15RegisterShift)
        ∧ exec (.armRsc c sf rn rd op2) s = .refused (.unpredictable .r15RegisterShift))

/-- TST, TEQ, CMP and CMN change the flags and nothing else; a should-be-zero field that is not zero stops, and so
does r15 in a register-shift form (R306, R403, R406, R407, R418 to R421).
Rests on the spec's own decisions D3 (R306, R403). -/
def Obligations.TestResult : Prop :=
  ∀ (s : State) (c : Cond) (rn : RegNum) (sb : BitVec 4) (op2 : Operand2), condPassed c s.cpsr = true →
    (let v := (s.shifterOperand op2).value
     let sc := (s.shifterOperand op2).carry
     let a := s.reg rn
     regShiftUsesPc rn 0#4 op2 = false →
        exec (.armTst c rn 0#4 op2) s = .next { s with cpsr := logicFlags s.cpsr (a &&& v) sc }
        ∧ exec (.armTeq c rn 0#4 op2) s = .next { s with cpsr := logicFlags s.cpsr (a ^^^ v) sc }
        ∧ exec (.armCmp c rn 0#4 op2) s = .next { s with cpsr := arithFlags s.cpsr (addWithCarry a (~~~v) true) }
        ∧ exec (.armCmn c rn 0#4 op2) s = .next { s with cpsr := arithFlags s.cpsr (addWithCarry a v false) })
    ∧ (sb ≠ 0#4 →
        exec (.armTst c rn sb op2) s = .refused (.unpredictable .shouldBeField)
        ∧ exec (.armTeq c rn sb op2) s = .refused (.unpredictable .shouldBeField)
        ∧ exec (.armCmp c rn sb op2) s = .refused (.unpredictable .shouldBeField)
        ∧ exec (.armCmn c rn sb op2) s = .refused (.unpredictable .shouldBeField))
    ∧ (regShiftUsesPc rn 0#4 op2 = true →
        stopsUnpredictable (.armTst c rn sb op2) s ∧ stopsUnpredictable (.armTeq c rn sb op2) s
        ∧ stopsUnpredictable (.armCmp c rn sb op2) s ∧ stopsUnpredictable (.armCmn c rn sb op2) s)

/-- The twelve data-processing instructions with a destination, with the operation each makes. -/
def dpForms (c : Cond) (sf : Bool) (rn rd : RegNum) (op2 : Operand2) : List (Instr × DpOp) :=
  [(.armAnd c sf rn rd op2, .and), (.armEor c sf rn rd op2, .eor), (.armSub c sf rn rd op2, .sub),
    (.armRsb c sf rn rd op2, .rsb), (.armAdd c sf rn rd op2, .add), (.armAdc c sf rn rd op2, .adc),
    (.armSbc c sf rn rd op2, .sbc), (.armRsc c sf rn rd op2, .rsc), (.armOrr c sf rn rd op2, .orr),
    (.armBic c sf rn rd op2, .bic)]

/-- MOV and MVN, with the operation each makes. -/
def moveForms (c : Cond) (sf : Bool) (rd : RegNum) (op2 : Operand2) : List (Instr × DpOp) :=
  [(.armMov c sf 0#4 rd op2, .mov), (.armMvn c sf 0#4 rd op2, .mvn)]

/-- A data-processing instruction with Rd = 15: with S = 0 the result goes to the PC and the CPSR is unchanged; with S
= 1 the CPSR becomes the current SPSR first, which is a Fatal stop in User and System mode and Unsupported for a
malformed mode; a misaligned PC in ARM state stops (R105, R109, R111, R406).
Rests on the spec's own decisions D11 (R109), D42 (R111). -/
def Obligations.DataProcessingToPc : Prop :=
  ∀ (s : State) (c : Cond) (rn : RegNum) (op2 : Operand2) (f : Instr × DpOp), condPassed c s.cpsr = true →
    regShiftUsesPc rn 15#4 op2 = false →
    (f ∈ dpForms c false rn 15#4 op2 ++ moveForms c false 15#4 op2 →
      exec f.1 s =
        match s.aluTo (s.dpOut f.2 rn op2).result with
        | some t => .next t
        | none => .refused (.unpredictable .armPcWrite))
    ∧ (f ∈ dpForms c true rn 15#4 op2 ++ moveForms c true 15#4 op2 →
      exec f.1 s =
        match s.mode.bank with
        | none => .fault .spsrAccess
        | some b =>
          if (Mode.ofBits (psrM (s.spsr.get b))).isSome then
            match { s with cpsr := s.spsr.get b }.aluTo (s.dpOut f.2 rn op2).result with
            | some t => .next t
            | none => .refused (.unpredictable .armPcWrite)
          else .refused (.unsupported .malformedMode))

/-- ADD then SUB of the same operand, a register or an immediate, restores the destination (R426).
Rests on the spec's own inferences [derived] R426. -/
def Obligations.AddSubRoundTrip : Prop :=
  (∀ a b : Word, (addWithCarry (addWithCarry a b false).result (~~~b) true).result = a)
  ∧ ∀ (s : State) (sf sf' : Bool) (rd rm : RegNum) (rot : BitVec 4) (imm8 : BitVec 8) (op2 : Operand2), rd ≠ 15#4 →
    (op2 = .immShift rm .lsl 0#5 ∧ rm ≠ 15#4 ∧ rm ≠ rd) ∨ op2 = .imm rot imm8 →
    ∃ t u, exec (.armAdd .al sf rd rd op2) s = .next t ∧ exec (.armSub .al sf' rd rd op2) t = .next u
      ∧ u.reg rd = s.reg rd ∧ u.regs = s.regs

/-! ## ARM multiplies -/

/-- MUL and MLA: the product, with the addend, modulo 2^32; N and Z when S is 1; the restricted registers stop, and so
does MUL's should-be-zero field when it is not zero (R306, R450 to R452).
Rests on the spec's own decisions D3 (R306, R450). -/
def Obligations.MultiplyResult : Prop :=
  ∀ (s : State) (c : Cond) (sf : Bool) (rd rn rs rm : RegNum) (sb : BitVec 4), condPassed c s.cpsr = true →
    (let out (r : Word) : State :=
      { s.setReg rd r with cpsr := if sf then nzFlags s.cpsr r else s.cpsr }
     (rd ≠ 15#4 ∧ rs ≠ 15#4 ∧ rm ≠ 15#4 ∧ rd ≠ rm →
        exec (.armMul c sf rd 0#4 rs rm) s
          = .next (out (BitVec.ofNat 32 ((s.reg rm).toNat * (s.reg rs).toNat)))
        ∧ (rn ≠ 15#4 → exec (.armMla c sf rd rn rs rm) s
          = .next (out (BitVec.ofNat 32 ((s.reg rm).toNat * (s.reg rs).toNat + (s.reg rn).toNat))))))
    ∧ (rd = 15#4 ∨ rs = 15#4 ∨ rm = 15#4 ∨ rd = rm →
        exec (.armMul c sf rd 0#4 rs rm) s = .refused (.unpredictable .multiplyRegisters)
        ∧ exec (.armMla c sf rd rn rs rm) s = .refused (.unpredictable .multiplyRegisters))
    ∧ (rn = 15#4 → exec (.armMla c sf rd rn rs rm) s = .refused (.unpredictable .multiplyRegisters))
    ∧ (sb ≠ 0#4 → stopsUnpredictable (.armMul c sf rd sb rs rm) s)

/-- The long multiplies: the exact 64-bit product, unsigned or signed, with the destination pair added modulo 2^64 for
the accumulating forms; N and Z of the 64-bit result when S is 1; the restricted registers stop (R450, R453 to R456).
Rests on the spec's own decisions D3 (R450). -/
def Obligations.LongMultiplyResult : Prop :=
  ∀ (s : State) (c : Cond) (sf : Bool) (rdHi rdLo rs rm : RegNum), condPassed c s.cpsr = true →
    (rdHi ≠ 15#4 → rdLo ≠ 15#4 → rs ≠ 15#4 → rm ≠ 15#4 → rdHi ≠ rdLo → rdHi ≠ rm → rdLo ≠ rm →
     let out (p : DWord) : State :=
      { (s.setReg rdHi (p.extractLsb' 32 32)).setReg rdLo (p.extractLsb' 0 32) with
        cpsr := if sf then nzFlags64 s.cpsr p else s.cpsr }
     let acc := (s.reg rdHi).toNat * 2 ^ 32 + (s.reg rdLo).toNat
     exec (.armUmull c sf rdHi rdLo rs rm) s
        = .next (out (BitVec.ofNat 64 ((s.reg rm).toNat * (s.reg rs).toNat)))
     ∧ exec (.armUmlal c sf rdHi rdLo rs rm) s
        = .next (out (BitVec.ofNat 64 ((s.reg rm).toNat * (s.reg rs).toNat + acc)))
     ∧ exec (.armSmull c sf rdHi rdLo rs rm) s
        = .next (out (BitVec.ofInt 64 ((s.reg rm).toInt * (s.reg rs).toInt)))
     ∧ exec (.armSmlal c sf rdHi rdLo rs rm) s
        = .next (out (BitVec.ofInt 64 ((s.reg rm).toInt * (s.reg rs).toInt + acc))))
    ∧ (rdHi = 15#4 ∨ rdLo = 15#4 ∨ rs = 15#4 ∨ rm = 15#4 ∨ rdHi = rdLo ∨ rdHi = rm ∨ rdLo = rm →
        exec (.armUmull c sf rdHi rdLo rs rm) s = .refused (.unpredictable .multiplyRegisters)
        ∧ exec (.armUmlal c sf rdHi rdLo rs rm) s = .refused (.unpredictable .multiplyRegisters)
        ∧ exec (.armSmull c sf rdHi rdLo rs rm) s = .refused (.unpredictable .multiplyRegisters)
        ∧ exec (.armSmlal c sf rdHi rdLo rs rm) s = .refused (.unpredictable .multiplyRegisters))

/-- The instructions the core is stated not to execute stop Unsupported: the DSP multiplies and saturating forms once
their condition has passed, or Unpredictable on a should-be-zero field that is not zero (R306, R457, R460 to R468),
the 32-bit Thumb forms at once (R854 to R858), a BL or BLX pair with J1 or J2 clear too (R851, R852).
Rests on the spec's own decisions D3 (R306), D13 (R851, R852, R854 to R858). -/
def Obligations.UnsupportedStops : Prop :=
  (∀ (s : State) (c : Cond) (ra rb rs rm : RegNum) (x y : Bool), condPassed c s.cpsr = true →
    exec (.armSmlaxy c ra rb rs y x rm) s = .refused (.unsupported .dspInstruction)
    ∧ exec (.armSmlawy c ra rb rs y rm) s = .refused (.unsupported .dspInstruction)
    ∧ exec (.armSmulwy c ra 0#4 rs y rm) s = .refused (.unsupported .dspInstruction)
    ∧ exec (.armSmlalxy c ra rb rs y x rm) s = .refused (.unsupported .dspInstruction)
    ∧ exec (.armSmulxy c ra 0#4 rs y x rm) s = .refused (.unsupported .dspInstruction)
    ∧ exec (.armQadd c ra rb 0#4 rm) s = .refused (.unsupported .dspInstruction)
    ∧ exec (.armQsub c ra rb 0#4 rm) s = .refused (.unsupported .dspInstruction)
    ∧ exec (.armQdadd c ra rb 0#4 rm) s = .refused (.unsupported .dspInstruction)
    ∧ exec (.armQdsub c ra rb 0#4 rm) s = .refused (.unsupported .dspInstruction)
    ∧ ∀ sb : BitVec 4, sb ≠ 0#4 →
      stopsUnpredictable (.armSmulwy c ra sb rs y rm) s ∧ stopsUnpredictable (.armSmulxy c ra sb rs y x rm) s
      ∧ stopsUnpredictable (.armQadd c ra rb sb rm) s ∧ stopsUnpredictable (.armQsub c ra rb sb rm) s
      ∧ stopsUnpredictable (.armQdadd c ra rb sb rm) s ∧ stopsUnpredictable (.armQdsub c ra rb sb rm) s)
  ∧ ∀ (s : State) (sg j1 j2 h f13 : Bool) (i4 o4 : BitVec 4) (f5 : BitVec 5) (i6 : BitVec 6)
      (i10 l10 : BitVec 10) (i11 f11 : BitVec 11) (f12 : BitVec 12) (f15 : BitVec 15) (f27 : BitVec 27)
      (op3 : BitVec 3),
    exec (.thumb32Smc i4 f12) s = .refused (.unsupported .smc)
    ∧ exec (.thumb32BT3 sg o4 i6 j1 j2 i11) s = .refused (.unsupported .thumb2Branch)
    ∧ exec (.thumb32BT4 sg i10 j1 j2 i11) s = .refused (.unsupported .thumb2Branch)
    ∧ exec (.thumb32Msr f5 f13 f12) s = .refused (.unsupported .thumb2Control)
    ∧ exec (.thumb32Hint i4 f13 f12) s = .refused (.unsupported .thumb2Control)
    ∧ exec (.thumb32MiscCtl i4 f13 f12) s = .refused (.unsupported .thumb2Control)
    ∧ exec (.thumb32Bxj i4 f13 f12) s = .refused (.unsupported .thumb2Control)
    ∧ exec (.thumb32SubsPcLr i4 f13 f12) s = .refused (.unsupported .thumb2Control)
    ∧ exec (.thumb32Mrs f5 f13 f12) s = .refused (.unsupported .thumb2Control)
    ∧ exec (.thumb32BrMiscUndef op3 i4 f13 f12) s = .refused (.unsupported .thumb2Control)
    ∧ exec (.thumb32DpImm f11 f15) s = .refused (.unsupported .thumb2Space)
    ∧ exec (.thumb32Space01 f27) s = .refused (.unsupported .thumb2Space)
    ∧ exec (.thumb32Space11 f27) s = .refused (.unsupported .thumb2Space)
    ∧ ((j1 && j2) = false →
        exec (.thumb32Bl sg i10 j1 j2 i11) s = .refused (.unsupported .thumb2Range)
        ∧ exec (.thumb32BlxImm sg i10 j1 j2 l10 h) s = .refused (.unsupported .thumb2Range))

/-! ## ARM loads and stores -/

/-- LDR, and LDRT with User permissions: the aligned word that holds the address, rotated right by eight times the
address's low two bits, in Rd after the write-back; into the PC from an aligned address it exchanges; r15 as offset
register, a restricted write-back, LDRT to r15 and a PC load from a misaligned address stop. The address and the
write-back of mode 2: the base plus or minus the immediate, the register or the shifted register, used before or after
the access (R109, R500 to R505, R509).
Rests on the spec's own decisions D3 (R502), D11 (R109). -/
def Obligations.LoadWordResult : Prop :=
  ∀ (s : State) (c : Cond) (u : Bool) (ix : Indexing) (rn rd : RegNum) (off : Offset2) (pa : Word),
    condPassed c s.cpsr = true →
    (let a := s.mode2Address u ix rn off
     let data := s.mem.read .word (pa &&& 0xFFFFFFFC#32)
     offset2UsesPc off = false → mode2Restricted ix rn rd = false → s.loadsAt a.ea .word s.privileged pa →
      (rd ≠ 15#4 → exec (.armLdr c u ix rn rd off) s
        = .next ((s.writtenBack rn a.writeBack).setReg rd (data.rotateRight (8 * (a.ea.toNat % 4)))))
      ∧ (rd = 15#4 → a.ea.toNat % 4 = 0 → exec (.armLdr c u ix rn rd off) s
        = match (s.writtenBack rn a.writeBack).exchangeTo data with
          | some t => .next t
          | none => .refused (.unpredictable .bxToArm))
      ∧ (rd = 15#4 → a.ea.toNat % 4 ≠ 0 → exec (.armLdr c u ix rn rd off) s
        = .refused (.unpredictable .misalignedPcLoad)))
    ∧ (offset2UsesPc off = true ∨ mode2Restricted ix rn rd = true →
        stopsUnpredictable (.armLdr c u ix rn rd off) s)
    ∧ (offset2UsesPc off = true ∨ mode2Restricted .postIndexed rn rd = true ∨ rd = 15#4 →
        stopsUnpredictable (.armLdrt c u rn rd off) s)
    ∧ (let a := s.mode2Address u .postIndexed rn off
       let data := s.mem.read .word (pa &&& 0xFFFFFFFC#32)
       offset2UsesPc off = false → mode2Restricted .postIndexed rn rd = false → s.loadsAt a.ea .word false pa → rd ≠ 15#4 →
        exec (.armLdrt c u rn rd off) s
          = .next ((s.writtenBack rn a.writeBack).setReg rd (data.rotateRight (8 * (a.ea.toNat % 4)))))
    ∧ (let base := s.reg rn
       let amount : Word := match off with
         | .imm offset12 => BitVec.ofNat 32 offset12.toNat
         | .reg rm k n => if k = .lsl ∧ n = 0#5 then s.reg rm else (shiftImm k n (s.reg rm) (s.cpsr.getLsbD 29)).value
       let moved := if u then base + amount else base - amount
       s.mode2Address u .offset rn off = ⟨moved, none⟩
        ∧ s.mode2Address u .preIndexed rn off = ⟨moved, some moved⟩
        ∧ s.mode2Address u .postIndexed rn off = ⟨base, some moved⟩)

/-- LDRB and LDRBT load a byte zero-extended, LDRSB a byte sign-extended, LDRH a halfword zero-extended and LDRSH a
halfword sign-extended, after the write-back and with nothing else changed; r15 as destination or offset register, a
restricted write-back, a should-be-zero field that is not zero and a halfword at an odd address stop. The address and
the write-back of mode 3: the base plus or minus the immediate or the register, used before or after the access (R207,
R306, R500 to R503, R507, R511, R513, R514, R516, R517).
Rests on the spec's own decisions D3 (R306, R502, R513), D16 (R207), D36 (R207). -/
def Obligations.LoadNarrowResult : Prop :=
  ∀ (s : State) (c : Cond) (p u w : Bool) (ix : Indexing) (rn rd : RegNum) (off : Offset2) (off3 : Offset3)
    (pa : Word), condPassed c s.cpsr = true →
    (let a := s.mode2Address u ix rn off
     rd ≠ 15#4 → offset2UsesPc off = false → mode2Restricted ix rn rd = false → s.loadsAt a.ea .byte s.privileged pa →
      exec (.armLdrb c u ix rn rd off) s
        = .next ((s.writtenBack rn a.writeBack).setReg rd ((s.mem.readByte pa.toNat).setWidth 32)))
    ∧ (let a := s.mode2Address u .postIndexed rn off
       rd ≠ 15#4 → offset2UsesPc off = false → mode2Restricted .postIndexed rn rd = false →
       s.loadsAt a.ea .byte false pa →
        exec (.armLdrbt c u rn rd off) s
          = .next ((s.writtenBack rn a.writeBack).setReg rd ((s.mem.readByte pa.toNat).setWidth 32)))
    ∧ (let a := s.mode3Address p u w rn off3
       let h := s.mem.read .half (pa &&& 0xFFFFFFFE#32)
       rd ≠ 15#4 → offset3UsesPc off3 = false → offset3SbOk off3 = true → mode3Restricted p w rn rd = false →
        (s.loadsAt a.ea .byte s.privileged pa →
          exec (.armLdrsb c p u w rn rd off3) s
            = .next ((s.writtenBack rn a.writeBack).setReg rd ((s.mem.readByte pa.toNat).signExtend 32)))
        ∧ (s.oddHalfword a.ea = false → s.loadsAt a.ea .half s.privileged pa →
          exec (.armLdrh c p u w rn rd off3) s = .next ((s.writtenBack rn a.writeBack).setReg rd h)
          ∧ exec (.armLdrsh c p u w rn rd off3) s
            = .next ((s.writtenBack rn a.writeBack).setReg rd ((h.extractLsb' 0 16).signExtend 32)))
        ∧ (s.oddHalfword a.ea = true →
          exec (.armLdrh c p u w rn rd off3) s = .refused (.unpredictable .misalignedHalfword)
          ∧ exec (.armLdrsh c p u w rn rd off3) s = .refused (.unpredictable .misalignedHalfword)))
    ∧ (rd = 15#4 ∨ offset2UsesPc off = true ∨ mode2Restricted ix rn rd = true →
        stopsUnpredictable (.armLdrb c u ix rn rd off) s)
    ∧ (rd = 15#4 ∨ offset2UsesPc off = true ∨ mode2Restricted .postIndexed rn rd = true →
        stopsUnpredictable (.armLdrbt c u rn rd off) s)
    ∧ (rd = 15#4 ∨ offset3UsesPc off3 = true ∨ offset3SbOk off3 = false ∨ mode3Restricted p w rn rd = true →
        stopsUnpredictable (.armLdrsb c p u w rn rd off3) s ∧ stopsUnpredictable (.armLdrh c p u w rn rd off3) s
        ∧ stopsUnpredictable (.armLdrsh c p u w rn rd off3) s)
    ∧ (let base := s.reg rn
       let amount : Word := match off3 with
         | .imm imm8 => BitVec.ofNat 32 imm8.toNat
         | .reg _ rm => s.reg rm
       let moved := if u then base + amount else base - amount
       s.mode3Address true u false rn off3 = ⟨moved, none⟩
        ∧ s.mode3Address true u true rn off3 = ⟨moved, some moved⟩
        ∧ s.mode3Address false u false rn off3 = ⟨base, some moved⟩)

/-- What a store of the low bytes of v to the aligned unit at pa leaves: the unit's bytes are v's, little-endian, and
every other byte, register and flag is as before (R202, R205). -/
def storedAt (s t : State) (n : AccSize) (pa v : Word) : Prop :=
  (∀ k, k < n.bytes → t.mem.readByte ((n.align pa).toNat + k) = v.extractLsb' (8 * k) 8)
  ∧ (∀ a, outsideUnit n pa a → t.mem.readByte a = s.mem.readByte a)
  ∧ { t with mem := s.mem } = s

/-- STR, STRB and STRH, and STRT and STRBT with User permissions: the register's low bytes go to the aligned unit that
holds the address, every other byte of memory is as before, and only the base is written back; the forms that the
loads stop on stop too, but for STR and STRT of r15 (R207, R306, R500 to R503, R506, R508, R510, R512, R513, R515).
Rests on the spec's own decisions D3 (R306, R502, R513), D16 (R207), D36 (R207). -/
def Obligations.StoreResult : Prop :=
  ∀ (s : State) (c : Cond) (p u w : Bool) (ix : Indexing) (rn rd : RegNum) (off : Offset2) (off3 : Offset3)
    (pa : Word), condPassed c s.cpsr = true → s.mem.wf = true →
    (let a := s.mode2Address u ix rn off
     offset2UsesPc off = false → mode2Restricted ix rn rd = false →
      (s.storesAt a.ea .word s.privileged pa → ∃ t, storedAt s t .word pa (s.reg rd)
        ∧ exec (.armStr c u ix rn rd off) s = .next (t.writtenBack rn a.writeBack))
      ∧ (rd ≠ 15#4 → s.storesAt a.ea .byte s.privileged pa → ∃ t, storedAt s t .byte pa (s.reg rd)
        ∧ exec (.armStrb c u ix rn rd off) s = .next (t.writtenBack rn a.writeBack)))
    ∧ (let a := s.mode2Address u .postIndexed rn off
       offset2UsesPc off = false → mode2Restricted .postIndexed rn rd = false →
        (s.storesAt a.ea .word false pa → ∃ t, storedAt s t .word pa (s.reg rd)
          ∧ exec (.armStrt c u rn rd off) s = .next (t.writtenBack rn a.writeBack))
        ∧ (rd ≠ 15#4 → s.storesAt a.ea .byte false pa → ∃ t, storedAt s t .byte pa (s.reg rd)
          ∧ exec (.armStrbt c u rn rd off) s = .next (t.writtenBack rn a.writeBack)))
    ∧ (let a := s.mode3Address p u w rn off3
       offset3UsesPc off3 = false → offset3SbOk off3 = true → mode3Restricted p w rn rd = false → rd ≠ 15#4 →
        (s.oddHalfword a.ea = false → s.storesAt a.ea .half s.privileged pa → ∃ t, storedAt s t .half pa (s.reg rd)
          ∧ exec (.armStrh c p u w rn rd off3) s = .next (t.writtenBack rn a.writeBack))
        ∧ (s.oddHalfword a.ea = true →
          exec (.armStrh c p u w rn rd off3) s = .refused (.unpredictable .misalignedHalfword)))
    ∧ (offset2UsesPc off = true ∨ mode2Restricted ix rn rd = true →
        stopsUnpredictable (.armStr c u ix rn rd off) s ∧ stopsUnpredictable (.armStrb c u ix rn rd off) s)
    ∧ (offset2UsesPc off = true ∨ mode2Restricted .postIndexed rn rd = true →
        stopsUnpredictable (.armStrt c u rn rd off) s ∧ stopsUnpredictable (.armStrbt c u rn rd off) s)
    ∧ (rd = 15#4 → stopsUnpredictable (.armStrb c u ix rn rd off) s ∧ stopsUnpredictable (.armStrbt c u rn rd off) s)
    ∧ (rd = 15#4 ∨ offset3UsesPc off3 = true ∨ offset3SbOk off3 = false ∨ mode3Restricted p w rn rd = true →
        stopsUnpredictable (.armStrh c p u w rn rd off3) s)

/-- LDRD: both words are read, then the base is written back, then the pair; an abort on either word leaves every
register as it was; a should-be-zero field that is not zero stops before any other restriction, and the restricted
registers stop. An address that is no multiple of 8 stops, but for one that is no multiple of 4 with control M = A =
1, which takes the alignment fault: how the model reads R207 and 93_implementation_defined.md G30 with R518, which
prints the stop without that guard: DEDUCED, log entry 21 (R207, R306, R513, R518).
Rests on the spec's own decisions D3 (R306, R513), D16 (R207), D36 (R207, R518). -/
def Obligations.LoadDoubleResult : Prop :=
  ∀ (s : State) (c : Cond) (p u w : Bool) (rn rd : RegNum) (off : Offset3) (pa pa2 : Word),
    condPassed c s.cpsr = true →
    (rd.toNat % 2 = 0 → rd ≠ 14#4 → offset3InPair rd off = false →
     offset3UsesPc off = false → offset3SbOk off = true → mode3Restricted p w rn rd = false →
     pairWriteBack p w rn rd = false →
     let a := s.mode3Address p u w rn off
     (a.ea.toNat % 8 = 0 → s.loadsAt a.ea .word s.privileged pa →
       (∀ t, s.pending = Pending.empty → s.abortsAt (a.ea + 4#32) .word s.privileged true t →
          exec (.armLdrd c p u w rn rd off) s = .next t)
       ∧ (s.loadsAt (a.ea + 4#32) .word s.privileged pa2 →
          exec (.armLdrd c p u w rn rd off) s
            = .next (((s.writtenBack rn a.writeBack).setReg rd (s.mem.read .word (pa &&& 0xFFFFFFFC#32))).setReg
                (rd + 1#4) (s.mem.read .word (pa2 &&& 0xFFFFFFFC#32)))))
     ∧ (a.ea.toNat % 8 ≠ 0 → (s.mmuOn = true → s.alignCheck = true → a.ea.toNat % 4 = 0) →
        exec (.armLdrd c p u w rn rd off) s = .refused (.unpredictable .misalignedDoubleword))
     ∧ (a.ea.toNat % 4 ≠ 0 → s.mmuOn = true → s.alignCheck = true → s.faultFlag = false → s.pending = Pending.empty →
        exec (.armLdrd c p u w rn rd off) s
          = .next ((s.recordFault a.ea .align none).request .dataAbort .mmuFault))
     ∧ (∀ t, a.ea.toNat % 8 = 0 → s.faultFlag = false → s.pending = Pending.empty →
        s.abortsAt a.ea .word s.privileged true t → exec (.armLdrd c p u w rn rd off) s = .next t))
    ∧ (offset3SbOk off = false → exec (.armLdrd c p u w rn rd off) s = .refused (.unpredictable .shouldBeField))
    ∧ (rd.toNat % 2 = 1 ∨ rd = 14#4 ∨ offset3InPair rd off = true ∨ offset3UsesPc off = true ∨ offset3SbOk off = false
        ∨ mode3Restricted p w rn rd = true ∨ pairWriteBack p w rn rd = true →
        stopsUnpredictable (.armLdrd c p u w rn rd off) s)

/-- STRD: two word stores in ascending order, the second seeing the first, then the base is written back; an abort on
the first leaves memory as it was, one on the second leaves the first word written, and both the base as it was and
the exception pending; a should-be-zero field that is not zero stops before any other restriction, and the restricted
registers stop. An address that is no multiple of 8 stops, but for one that is no multiple of 4 with control M = A =
1, which takes the alignment fault: how the model reads R207 and 93_implementation_defined.md G30 with R519, which
prints the stop without that guard: DEDUCED, log entry 21 (R207, R306, R513, R519, R901).
Rests on the spec's own decisions D3 (R306, R513), D16 (R207), D36 (R207, R519) and its own inferences [derived] R901. -/
def Obligations.StoreDoubleResult : Prop :=
  ∀ (s : State) (c : Cond) (p u w : Bool) (rn rd : RegNum) (off : Offset3) (pa pa2 : Word) (st : FaultStatus)
    (dom : Option (BitVec 4)), condPassed c s.cpsr = true → s.mem.wf = true →
    (rd.toNat % 2 = 0 → rd ≠ 14#4 →
     offset3UsesPc off = false → offset3SbOk off = true → mode3Restricted p w rn rd = false →
     pairWriteBack p w rn rd = false →
     let a := s.mode3Address p u w rn off
     (a.ea.toNat % 8 ≠ 0 → (s.mmuOn = true → s.alignCheck = true → a.ea.toNat % 4 = 0) →
        exec (.armStrd c p u w rn rd off) s = .refused (.unpredictable .misalignedDoubleword))
     ∧ (a.ea.toNat % 4 ≠ 0 → s.mmuOn = true → s.alignCheck = true → s.faultFlag = false → s.pending = Pending.empty →
        exec (.armStrd c p u w rn rd off) s
          = .next ((s.recordFault a.ea .align none).request .dataAbort .mmuFault))
     ∧ (∀ v, a.ea.toNat % 8 = 0 → s.faultFlag = false → s.pending = Pending.empty →
        s.abortsAt a.ea .word s.privileged false v → exec (.armStrd c p u w rn rd off) s = .next v)
     ∧ (a.ea.toNat % 8 = 0 → s.storesAt a.ea .word s.privileged pa →
      ∃ t, storedAt s t .word pa (s.reg rd)
        ∧ (t.storesAt (a.ea + 4#32) .word s.privileged pa2 →
            ∃ v, storedAt t v .word pa2 (s.reg (rd + 1#4))
              ∧ exec (.armStrd c p u w rn rd off) s = .next (v.writtenBack rn a.writeBack))
        ∧ (t.translation (a.ea + 4#32) .word s.privileged false = .fault st dom → s.pending = Pending.empty →
            exec (.armStrd c p u w rn rd off) s
              = .next ((t.recordFault (a.ea + 4#32) st dom).request .dataAbort .mmuFault))
        ∧ ∀ v, t.abortsAt (a.ea + 4#32) .word s.privileged false v → s.pending = Pending.empty →
            exec (.armStrd c p u w rn rd off) s = .next v))
    ∧ (offset3SbOk off = false → exec (.armStrd c p u w rn rd off) s = .refused (.unpredictable .shouldBeField))
    ∧ (rd.toNat % 2 = 1 ∨ rd = 14#4 ∨ offset3UsesPc off = true ∨ offset3SbOk off = false
        ∨ mode3Restricted p w rn rd = true ∨ pairWriteBack p w rn rd = true →
        stopsUnpredictable (.armStrd c p u w rn rd off) s)

/-- SWP and SWPB: the unit at the address is read, then the register is stored there, then the old unit arrives in Rd,
rotated for a word; a fault of the load, a fault of the store and a failed probe of either request DataAbort before
anything is read or written; the restricted registers and a should-be-zero field that is not zero stop (R306, R520,
R521).
Rests on the spec's own decisions D3 (R306), D15 (R520, R521). -/
def Obligations.SwapResult : Prop :=
  ∀ (s : State) (c : Cond) (rn rd rm : RegNum) (sb : BitVec 4) (paR paW : Word), condPassed c s.cpsr = true →
    s.mem.wf = true →
    (rd ≠ 15#4 → rm ≠ 15#4 → rn ≠ 15#4 → rn ≠ rm → rn ≠ rd →
     let a := s.reg rn
     (s.loadsAt a .word s.privileged paR → s.storesAt a .word s.privileged paW →
        ∃ t, storedAt s t .word paW (s.reg rm)
          ∧ exec (.armSwp c rn rd 0#4 rm) s = .next (t.setReg rd
              ((s.mem.read .word (paR &&& 0xFFFFFFFC#32)).rotateRight (8 * (a.toNat % 4)))))
     ∧ (s.loadsAt a .byte s.privileged paR → s.storesAt a .byte s.privileged paW →
        ∃ t, storedAt s t .byte paW (s.reg rm)
          ∧ exec (.armSwpb c rn rd 0#4 rm) s = .next (t.setReg rd ((s.mem.readByte paR.toNat).setWidth 32)))
     ∧ (∀ st dom, s.faultFlag = false → s.pending = Pending.empty →
        s.translation a .word s.privileged true = .fault st dom →
        exec (.armSwp c rn rd 0#4 rm) s = .next ((s.recordFault a st dom).request .dataAbort .mmuFault))
     ∧ (∀ x ∈ [(Instr.armSwp c rn rd 0#4 rm, AccSize.word), (.armSwpb c rn rd 0#4 rm, .byte)],
        s.faultFlag = false → s.pending = Pending.empty →
        (∀ st dom, s.translation a x.2 s.privileged true = .fault st dom →
          exec x.1 s = .next ((s.recordFault a st dom).request .dataAbort .mmuFault))
        ∧ (∀ st dom, s.translation a x.2 s.privileged true = .ok paR →
          s.translation a x.2 s.privileged false = .fault st dom →
          exec x.1 s = .next ((s.recordFault a st dom).request .dataAbort .mmuFault))
        ∧ (s.translation a x.2 s.privileged true = .ok paR → s.translation a x.2 s.privileged false = .ok paW →
          tryRead s x.2 (x.2.align paR) = false ∨ tryWrite s x.2 (x.2.align paW) = false →
          exec x.1 s = .next (s.request .dataAbort .busSwap))))
    ∧ (sb ≠ 0#4 ∨ rd = 15#4 ∨ rm = 15#4 ∨ rn = 15#4 ∨ rn = rm ∨ rn = rd →
        stopsUnpredictable (.armSwp c rn rd sb rm) s ∧ stopsUnpredictable (.armSwpb c rn rd sb rm) s)

/-- PLD does nothing but advance the PC, whatever its address; a should-be-one field that is not all ones stops (R306,
R522).
Rests on the spec's own decisions D3 (R306), D33 (R522). -/
def Obligations.PreloadDoesNothing : Prop :=
  ∀ (s : State) (u : Bool) (rn rm : RegNum) (off : BitVec 12) (amt : BitVec 5) (k : ShiftKind),
    exec (.armPldImm u rn 0xF#4 off) s = .next s ∧ exec (.armPldReg u rn 0xF#4 amt k rm) s = .next s
      ∧ (s.jumped = false → s.faultFlag = false →
          afterExec 4#32 s (exec (.armPldImm u rn 0xF#4 off) s) = .next { s with pc := s.pc + 4#32 }
          ∧ afterExec 4#32 s (exec (.armPldReg u rn 0xF#4 amt k rm) s) = .next { s with pc := s.pc + 4#32 })
      ∧ ∀ sb : BitVec 4, sb ≠ 0xF#4 →
        stopsUnpredictable (.armPldImm u rn sb off) s ∧ stopsUnpredictable (.armPldReg u rn sb amt k rm) s

/-! ## ARM block transfers -/

/-- The start address of a block transfer of n registers (R550). -/
def startOf (p u : Bool) (b : Word) (n : Nat) : Word :=
  match p, u with
  | false, true => b
  | true, true => b + 4#32
  | false, false => b - BitVec.ofNat 32 (4 * n) + 4#32
  | true, false => b - BitVec.ofNat 32 (4 * n)

/-- The write-back value of a block transfer of n registers (R550). -/
def endOf (u : Bool) (b : Word) (n : Nat) : Word :=
  if u then b + BitVec.ofNat 32 (4 * n) else b - BitVec.ofNat 32 (4 * n)

/-- LDM(1) and LDM(2): when every word can be loaded, the base is written back, then the registers of the list, in the
current bank or in the User bank, then the PC, which exchanges; a load that aborts leaves every register as it was; an
empty list, a base of r15, a written-back base in the list and a write-back of LDM(2) stop. The registers of a list
are those of its set bits, ascending, the k-th word is that at the start address plus 4k, and each register of the
list holds its word afterwards, every other register what it held (R550 to R555).
Rests on the spec's own decisions D17 (R552), D40 (R551), D41 (R554). -/
def Obligations.LoadMultipleResult : Prop :=
  ∀ (s : State) (c : Cond) (p u w : Bool) (rn : RegNum) (list : BitVec 16) (list15 : BitVec 15)
    (vs : List (RegNum × Word)), condPassed c s.cpsr = true → s.faultFlag = false →
    (let n := (listRegs list).length
     let t := ((s.writtenBack rn (if w then some (endOf u (s.reg rn) n) else none)).setRegs vs)
     rn ≠ 15#4 → list ≠ 0#16 → (w = true → list.getLsbD rn.toNat = false) →
     s.loadWords s.privileged (listRegs list) (startOf p u (s.reg rn) n) = some vs →
      (list.getLsbD 15 = false → exec (.armLdm1 c p u w rn list) s = .next t)
      ∧ (∀ v, (15#4, v) ∈ vs → exec (.armLdm1 c p u w rn list) s
          = match t.exchangeTo v with
            | some t' => .next t'
            | none => .refused (.unpredictable .bxToArm))
      ∧ (∀ r v, (r, v) ∈ vs → r ≠ 15#4 → t.reg r = v)
      ∧ (∀ r, r ≠ 15#4 → list.getLsbD r.toNat = false →
          t.reg r = if w = true ∧ r = rn then endOf u (s.reg rn) n else s.reg r)
      ∧ { t with regs := s.regs } = s)
    ∧ (let regs := listRegs (list15.setWidth 16)
       let t := s.setUserRegs vs
       rn ≠ 15#4 → list15 ≠ 0#15 →
       s.loadWords s.privileged regs (startOf p u (s.reg rn) regs.length) = some vs →
        exec (.armLdm2 c p u false rn list15) s = .next t
        ∧ (∀ r v, (r, v) ∈ vs → t.userReg r = v)
        ∧ (∀ q, (∀ r, list15.getLsbD r.toNat = true → Mode.usr.cell r ≠ some q) → t.regs.get q = s.regs.get q)
        ∧ { t with regs := s.regs } = s)
    ∧ (∀ r, r ∈ listRegs list ↔ list.getLsbD r.toNat = true)
    ∧ (listRegs list).Pairwise (fun a b => a.toNat < b.toNat)
    ∧ (∀ a, s.loadWords s.privileged (listRegs list) a = some vs →
        vs.map Prod.fst = listRegs list
        ∧ ∀ k x, vs[k]? = some x → ∃ pa, s.loadsAt (a + BitVec.ofNat 32 (4 * k)) .word s.privileged pa
          ∧ x.2 = s.mem.read .word (pa &&& 0xFFFFFFFC#32))
    ∧ (∀ k t, s.pending = Pending.empty → rn ≠ 15#4 →
        (let regs := listRegs list
         let start := startOf p u (s.reg rn) regs.length
         k < regs.length → (w = true → list.getLsbD rn.toNat = false) →
          (s.loadWords s.privileged (regs.take k) start).isSome = true →
          s.abortsAt (start + BitVec.ofNat 32 (4 * k)) .word s.privileged true t →
          exec (.armLdm1 c p u w rn list) s = .next t)
        ∧ (let regs := listRegs (list15.setWidth 16)
           let start := startOf p u (s.reg rn) regs.length
           k < regs.length → (s.loadWords s.privileged (regs.take k) start).isSome = true →
            s.abortsAt (start + BitVec.ofNat 32 (4 * k)) .word s.privileged true t →
            exec (.armLdm2 c p u false rn list15) s = .next t))
    ∧ (rn = 15#4 ∨ list = 0#16 ∨ (w = true ∧ list.getLsbD rn.toNat = true) →
        stopsUnpredictable (.armLdm1 c p u w rn list) s)
    ∧ (rn = 15#4 ∨ list15 = 0#15 ∨ w = true → stopsUnpredictable (.armLdm2 c p u w rn list15) s)

/-- LDM(3): the base and the registers in the current bank, then the CPSR from its SPSR, then the PC in the restored
instruction set; a load that aborts leaves every register and the CPSR as they were; a Fatal stop in User and System
mode; a base of r15 and a written-back base in the list stop (R105, R550 to R552, R556).
Rests on the spec's own decisions D17 (R552), D40 (R551). -/
def Obligations.LoadMultipleReturns : Prop :=
  ∀ (s : State) (c : Cond) (p u w : Bool) (rn : RegNum) (list : BitVec 15), condPassed c s.cpsr = true →
    (s.mode.bank = none → exec (.armLdm3 c p u w rn list) s = .fault .spsrAccess)
    ∧ (s.mode.bank ≠ none → rn = 15#4 ∨ (w = true ∧ list.getLsbD rn.toNat = true) →
        stopsUnpredictable (.armLdm3 c p u w rn list) s)
    ∧ (∀ k t, s.mode.bank ≠ none → rn ≠ 15#4 → (w = true → list.getLsbD rn.toNat = false) → s.faultFlag = false →
        s.pending = Pending.empty →
        (let regs := listRegs (list.setWidth 16 ||| 0x8000#16)
         let start := startOf p u (s.reg rn) regs.length
         k < regs.length → (s.loadWords s.privileged (regs.take k) start).isSome = true →
          s.abortsAt (start + BitVec.ofNat 32 (4 * k)) .word s.privileged true t →
          exec (.armLdm3 c p u w rn list) s = .next t))
    ∧ ∀ (b : Bank) (vs : List (RegNum × Word)) (v : Word), s.mode.bank = some b → s.faultFlag = false →
      (Mode.ofBits (psrM (s.spsr.get b))).isSome = true → rn ≠ 15#4 →
      (w = true → list.getLsbD rn.toNat = false) →
      (let regs := listRegs (list.setWidth 16 ||| 0x8000#16)
       let t := (s.writtenBack rn (if w then some (endOf u (s.reg rn) regs.length) else none)).setRegs vs
       s.loadWords s.privileged regs (startOf p u (s.reg rn) regs.length) = some vs → (15#4, v) ∈ vs →
        exec (.armLdm3 c p u w rn list) s
          = (match { t with cpsr := s.spsr.get b }.aluTo v with
            | some t' => .next t'
            | none => .refused (.unpredictable .armPcWrite))
        ∧ (∀ r x, (r, x) ∈ vs → r ≠ 15#4 → t.reg r = x)
        ∧ (∀ r, r ≠ 15#4 → list.getLsbD r.toNat = false →
            t.reg r = if w = true ∧ r = rn then endOf u (s.reg rn) regs.length else s.reg r)
        ∧ { t with regs := s.regs } = s)

/-- STM(1) and STM(2): when every word can be stored, the words of the list's registers, of the current bank or of the
User bank, at ascending addresses, then the write-back; with the MMU off the k-th word stands at the start address
plus 4k and no byte outside those words changes; a store that aborts keeps the words stored before it and leaves the
base as it was; an empty list, a base of r15, a written-back base in the list but not its lowest and a write-back of
STM(2) stop (R550 to R552, R555, R557, R558).
Rests on the spec's own decisions D17 (R552), D40 (R551), D41 (R558). -/
def Obligations.StoreMultipleResult : Prop :=
  ∀ (s t : State) (c : Cond) (p u w : Bool) (rn : RegNum) (list : BitVec 16), condPassed c s.cpsr = true →
    s.faultFlag = false →
    (let n := (listRegs list).length
     let start := startOf p u (s.reg rn) n
     (rn ≠ 15#4 → list ≠ 0#16 → (w = true → list.getLsbD rn.toNat = true → ∀ k, k < rn.toNat → list.getLsbD k = false) →
      storeWords s.privileged s ((listRegs list).map s.reg) start = some t →
      exec (.armStm1 c p u w rn list) s
        = .next (t.writtenBack rn (if w then some (endOf u (s.reg rn) n) else none)))
     ∧ (rn ≠ 15#4 → list ≠ 0#16 → storeWords s.privileged s ((listRegs list).map s.userReg) start = some t →
      exec (.armStm2 c p u false rn list) s = .next t)
     ∧ (∀ vs : List Word, storeWords s.privileged s vs start = some t →
        { t with mem := s.mem } = s
        ∧ (s.mmuOn = false → s.mem.wf = true → ∀ a,
            (∀ k, k < vs.length → outsideUnit .word (start + BitVec.ofNat 32 (4 * k)) a) →
            t.mem.readByte a = s.mem.readByte a)
        ∧ (s.mmuOn = false → s.mem.wf = true → vs.length ≤ 16 → ∀ k v, vs[k]? = some v →
            t.mem.read .word ((start + BitVec.ofNat 32 (4 * k)) &&& 0xFFFFFFFC#32) = v))
     ∧ (∀ k q v, s.pending = Pending.empty → rn ≠ 15#4 → k < n →
        ((w = true → list.getLsbD rn.toNat = true → ∀ j, j < rn.toNat → list.getLsbD j = false) →
          storeWords s.privileged s (((listRegs list).map s.reg).take k) start = some q →
          q.abortsAt (start + BitVec.ofNat 32 (4 * k)) .word s.privileged false v →
          exec (.armStm1 c p u w rn list) s = .next v)
        ∧ (storeWords s.privileged s (((listRegs list).map s.userReg).take k) start = some q →
          q.abortsAt (start + BitVec.ofNat 32 (4 * k)) .word s.privileged false v →
          exec (.armStm2 c p u false rn list) s = .next v))
     ∧ (rn = 15#4 ∨ list = 0#16
          ∨ (w = true ∧ list.getLsbD rn.toNat = true ∧ ∃ k, k < rn.toNat ∧ list.getLsbD k = true) →
        stopsUnpredictable (.armStm1 c p u w rn list) s)
     ∧ (rn = 15#4 ∨ list = 0#16 ∨ w = true → stopsUnpredictable (.armStm2 c p u w rn list) s))

/-! ## Branches and exchanges -/

/-- B, BL and BLX(1) of ARM state: the target is the PC plus 8 plus four times the signed offset, plus 2 with H; the
link is the PC plus 4; BLX(1) selects Thumb state (R600, R601, R603, R605). -/
def Obligations.ArmBranches : Prop :=
  ∀ (s : State) (c : Cond) (imm24 : BitVec 24) (h : Bool),
    (let target := BitVec.ofInt 32 ((s.pc.toNat : Int) + 8 + 4 * imm24.toInt)
     (condPassed c s.cpsr = true →
        exec (.armB c imm24) s = .next { s with pc := target, jumped := true }
        ∧ exec (.armBl c imm24) s
          = .next { s.setReg 14#4 (s.pc + 4#32) with pc := target, jumped := true })
     ∧ ∃ t, exec (.armBlxImm h imm24) s = .next t ∧ psrT t.cpsr = true
        ∧ t.pc = target + (if h then 2#32 else 0#32)
        ∧ { t with cpsr := s.cpsr } = { s.setReg 14#4 (s.pc + 4#32) with pc := t.pc, jumped := true }
        ∧ ∀ j, j ≠ 5 → t.cpsr.getLsbD j = s.cpsr.getLsbD j)

/-- BX and BLX(2) in both instruction sets: the operand is read before the link is written; bit 0 selects Thumb state,
a word-aligned value ARM state, and a value ending in 10 stops; BLX from r15 and a should-be field that is not as
required stop (R109, R306, R602, R604, R605, R823, R824).
Rests on the spec's own decisions D3 (R306), D11 (R109). -/
def Obligations.Exchanges : Prop :=
  ∀ (s : State) (c : Cond) (rm : RegNum) (h2 : Bool) (rl : LowReg),
    (let out (t : State) (v : Word) : Host.Outcome State Fault Refusal :=
      match t.exchangeTo v with
      | some u => .next u
      | none => .refused (.unpredictable .bxToArm)
     let rt : RegNum := BitVec.ofBool h2 ++ rl
     (condPassed c s.cpsr = true →
        exec (.armBx c 0xFFF#12 rm) s = out s (s.reg rm)
        ∧ (rm ≠ 15#4 → exec (.armBlxReg c 0xFFF#12 rm) s = out (s.setReg 14#4 (s.pc + 4#32)) (s.reg rm))
        ∧ (rm = 15#4 → exec (.armBlxReg c 0xFFF#12 rm) s = .refused (.unpredictable .blxPc)))
     ∧ exec (.thumbBx h2 rl 0#3) s = out s (s.reg rt)
     ∧ (rt ≠ 15#4 → exec (.thumbBlxReg h2 rl 0#3) s = out (s.setReg 14#4 ((s.pc + 2#32) ||| 1#32)) (s.reg rt))
     ∧ (rt = 15#4 → exec (.thumbBlxReg h2 rl 0#3) s = .refused (.unpredictable .blxPc))
     ∧ (∀ sb : BitVec 12, sb ≠ 0xFFF#12 → condPassed c s.cpsr = true →
        stopsUnpredictable (.armBx c sb rm) s ∧ stopsUnpredictable (.armBlxReg c sb rm) s)
     ∧ ∀ sb : BitVec 3, sb ≠ 0#3 →
        stopsUnpredictable (.thumbBx h2 rl sb) s ∧ stopsUnpredictable (.thumbBlxReg h2 rl sb) s)

/-- B(1) when its condition passes, B(2), and the BL and BLX pairs of Thumb state: targets, links and, for BLX, ARM
state from a base aligned down to a word; a BLX pair with H = 1 stops (R820, R822, R851, R852).
Rests on the spec's own decisions D13 (R851, R852). -/
def Obligations.ThumbBranches : Prop :=
  ∀ (s : State) (c : Cond) (imm8 : BitVec 8) (imm11 : BitVec 11) (sg : Bool) (i10 l10 : BitVec 10),
    (condPassed c s.cpsr = true →
      exec (.thumbBCond c imm8) s
        = .next { s with pc := BitVec.ofInt 32 ((s.pc.toNat : Int) + 4 + 2 * imm8.toInt), jumped := true })
    ∧ exec (.thumbB imm11) s
      = .next { s with pc := BitVec.ofInt 32 ((s.pc.toNat : Int) + 4 + 2 * imm11.toInt), jumped := true }
    ∧ (let link := (s.pc + 4#32) ||| 1#32
       let hi : Int := (if sg then -2 ^ 22 else 0) + (i10.toNat : Int) * 2 ^ 12
       exec (.thumb32Bl sg i10 true true imm11) s
         = .next { s.setReg 14#4 link with
             pc := BitVec.ofInt 32 ((s.pc.toNat : Int) + 4 + hi + 2 * (imm11.toNat : Int)), jumped := true }
       ∧ (∃ t, exec (.thumb32BlxImm sg i10 true true l10 false) s = .next t ∧ psrT t.cpsr = false
         ∧ t.pc = ((s.pc + 4#32) &&& 0xFFFFFFFC#32) + BitVec.ofInt 32 (hi + 4 * (l10.toNat : Int))
         ∧ { t with cpsr := s.cpsr } = { s.setReg 14#4 link with pc := t.pc, jumped := true }
         ∧ ∀ j, j ≠ 5 → t.cpsr.getLsbD j = s.cpsr.getLsbD j)
       ∧ exec (.thumb32BlxImm sg i10 true true l10 true) s = .refused (.unpredictable .blxHalfword))

/-! ## Status registers, CLZ, exception requests -/

/-- MRS reads the CPSR, or the SPSR of a mode that has one; elsewhere the SPSR read is a Fatal stop; r15 as
destination and should-be fields that are not as required stop (R105, R306, R650).
Rests on the spec's own decisions D3 (R306). -/
def Obligations.StatusRead : Prop :=
  ∀ (s : State) (c : Cond) (rd : RegNum), condPassed c s.cpsr = true →
    (rd ≠ 15#4 →
      exec (.armMrs c false 0xF#4 rd 0#4 0#4) s = .next (s.setReg rd s.cpsr)
      ∧ (∀ b, s.mode.bank = some b →
          exec (.armMrs c true 0xF#4 rd 0#4 0#4) s = .next (s.setReg rd (s.spsr.get b)))
      ∧ (s.mode.bank = none → exec (.armMrs c true 0xF#4 rd 0#4 0#4) s = .fault .spsrAccess))
    ∧ (∀ r, exec (.armMrs c r 0xF#4 15#4 0#4 0#4) s = .refused (.unpredictable .mrsToPc))
    ∧ ∀ (r : Bool) (a b d : BitVec 4), a ≠ 0xF#4 ∨ b ≠ 0#4 ∨ d ≠ 0#4 → stopsUnpredictable (.armMrs c r a rd b d) s

/-- The byte of a status register that bit j belongs to is written (R651). -/
def laneWritten (mask : BitVec 4) (j : Nat) : Prop := mask.getLsbD (j / 8) = true

/-- MSR, with a register and with an immediate operand: to the CPSR, exactly the masked bytes change, in User mode of
the flags byte only, T must not change and the mode must be legal; to the SPSR of a mode that has one, exactly the
masked bytes change; r15 as operand and a should-be field that is not as required stop (R105, R111, R306, R651 to
R653).
Rests on the spec's own decisions D3 (R306), D26 (R651), D42 (R111). -/
def Obligations.StatusWrite : Prop :=
  ∀ (s : State) (c : Cond) (mask rot : BitVec 4) (imm8 : BitVec 8) (rm : RegNum) (i : Instr) (v : Word) (r : Bool),
    condPassed c s.cpsr = true →
    (rm = 15#4 → stopsUnpredictable (.armMsrReg c r mask 0xF0#8 rm) s)
    ∧ (∀ sb : BitVec 8, sb ≠ 0xF0#8 → stopsUnpredictable (.armMsrReg c r mask sb rm) s)
    ∧ (∀ sb : BitVec 4, sb ≠ 0xF#4 → stopsUnpredictable (.armMsrImm c r mask sb rot imm8) s)
    ∧ ((i = .armMsrReg c r mask 0xF0#8 rm ∧ rm ≠ 15#4 ∧ v = s.reg rm)
      ∨ (i = .armMsrImm c r mask 0xF#4 rot imm8 ∧ v = (imm8.setWidth 32 : Word).rotateRight (2 * rot.toNat)) →
    (r = false → ∀ new : Word,
      (∀ j, j < 32 → (laneWritten mask j ∧ (s.privileged = true ∨ 24 ≤ j) → new.getLsbD j = v.getLsbD j)
        ∧ (¬(laneWritten mask j ∧ (s.privileged = true ∨ 24 ≤ j)) → new.getLsbD j = s.cpsr.getLsbD j)) →
      (psrT new = psrT s.cpsr → (Mode.ofBits (psrM new)).isSome = true → exec i s = .next { s with cpsr := new })
      ∧ (psrT new ≠ psrT s.cpsr → exec i s = .refused (.unpredictable .msrChangesT))
      ∧ (psrT new = psrT s.cpsr → (Mode.ofBits (psrM new)).isSome = false →
          exec i s = .refused (.unsupported .malformedMode)))
    ∧ (r = true → (s.mode.bank = none → exec i s = .fault .spsrAccess)
      ∧ ∀ (b : Bank) (new : Word), s.mode.bank = some b →
        (∀ j, j < 32 → (laneWritten mask j → new.getLsbD j = v.getLsbD j)
          ∧ (¬laneWritten mask j → new.getLsbD j = (s.spsr.get b).getLsbD j)) →
        exec i s = .next { s with spsr := s.spsr.set b new }))

/-- CLZ: the number of zeros above the most significant set bit, 32 for zero; r15 and should-be-one fields that are
not all ones stop (R306, R654).
Rests on the spec's own decisions D3 (R306). -/
def Obligations.CountLeadingZeros : Prop :=
  ∀ (s : State) (c : Cond) (rd rm : RegNum), condPassed c s.cpsr = true →
    (rd ≠ 15#4 → rm ≠ 15#4 → ∃ n ≤ 32,
      exec (.armClz c 0xF#4 rd 0xF#4 rm) s = .next (s.setReg rd (BitVec.ofNat 32 n))
      ∧ (∀ j, 32 - n ≤ j → (s.reg rm).getLsbD j = false) ∧ (n < 32 → (s.reg rm).getLsbD (31 - n) = true))
    ∧ (rd = 15#4 ∨ rm = 15#4 → exec (.armClz c 0xF#4 rd 0xF#4 rm) s = .refused (.unpredictable .clzPc))
    ∧ ∀ a b : BitVec 4, a ≠ 0xF#4 ∨ b ≠ 0xF#4 → stopsUnpredictable (.armClz c a rd b rm) s

/-- SWI, BKPT and the undefined forms of each instruction set request their exception and change nothing else; the
next dispatch enters it from the same PC; with an exception outstanding the raise is a Fatal stop; BKPT with a
condition other than AL stops (R655 to R657, R825 to R827, R853, R900, R905).
Rests on the spec's own decisions D5 (R900), D14 (R655, R826), D18 (R900), D25 (R656, R657), D46 (R853). -/
def Obligations.ExceptionRequests : Prop :=
  ∀ (s : State) (c : Cond) (i24 : BitVec 24) (i12 u12 : BitVec 12) (i4 : BitVec 4) (i8 : BitVec 8) (w : Word) (h : Half)
    (i : Instr) (k : ExcKind) (why : Reason),
    (c ≠ .al → exec (.armBkpt c i12 i4) s = .refused (.unpredictable .bkptCondition))
    ∧ ((i = .armSwi c i24 ∧ condPassed c s.cpsr = true ∧ k = .softwareInterrupt ∧ why = .swi)
      ∨ (i = .armBkpt .al i12 i4 ∧ k = .prefetchAbort ∧ why = .bkpt)
      ∨ (i = .armUndefined w ∧ (w.extractLsb' 28 4 = 0xF#4 ∨ condPassed (.ofBits (w.extractLsb' 28 4)) s.cpsr = true)
        ∧ k = .undefinedInstruction ∧ why = .undefinedWord)
      ∨ (i = .thumbSwi i8 ∧ k = .softwareInterrupt ∧ why = .swi)
      ∨ (i = .thumbBkpt i8 ∧ k = .prefetchAbort ∧ why = .bkpt)
      ∨ (i = .thumbUndefined h ∧ k = .undefinedInstruction ∧ why = .undefinedWord)
      ∨ (i = .thumb32Udf i4 u12 ∧ k = .undefinedInstruction ∧ why = .permanentlyUndefined) →
      (s.pending = Pending.empty → ∃ t, exec i s = .next t ∧ t.pending.get k = some why
      ∧ (∀ k', k' ≠ k → t.pending.get k' = none) ∧ { t with pending := Pending.empty } = s
      ∧ t.dispatch = s.enterException k)
      ∧ (s.pending ≠ Pending.empty → exec i s = .fault .raiseWhileOutstanding))

/-! ## Coprocessors -/

/-- The write-only operations of CP15's c7 and c8 that do nothing, as CRn, CRm and opcode2, with opcode1 = 0 (R129,
R130). -/
def cp15Maintenance : List (BitVec 4 × BitVec 4 × BitVec 3) :=
  [(7#4, 5#4, 0#3), (7#4, 5#4, 1#3), (7#4, 5#4, 2#3), (7#4, 5#4, 4#3), (7#4, 5#4, 6#3), (7#4, 6#4, 0#3),
    (7#4, 6#4, 1#3), (7#4, 6#4, 2#3), (7#4, 7#4, 0#3), (7#4, 10#4, 1#3), (7#4, 10#4, 2#3), (7#4, 10#4, 4#3),
    (7#4, 13#4, 1#3), (7#4, 14#4, 1#3), (7#4, 14#4, 2#3), (8#4, 7#4, 0#3), (8#4, 7#4, 1#3), (8#4, 5#4, 0#3),
    (8#4, 5#4, 1#3), (8#4, 6#4, 0#3), (8#4, 6#4, 1#3)]

/-- Every valid id of CP15 as CRn, CRm and opcode2, with opcode1 = 0 (R120 to R131): the registers, wait for
interrupt, the two read-only operations and the write-only ones. -/
def cp15Ids : List (BitVec 4 × BitVec 4 × BitVec 3) :=
  [(0#4, 0#4, 0#3), (0#4, 0#4, 1#3), (1#4, 0#4, 0#3), (2#4, 0#4, 0#3), (3#4, 0#4, 0#3), (5#4, 0#4, 0#3),
    (6#4, 0#4, 0#3), (7#4, 0#4, 4#3), (7#4, 10#4, 3#3), (7#4, 14#4, 3#3), (13#4, 0#4, 0#3)] ++ cp15Maintenance

/-- MCR to CP15 in a privileged mode, for every id: the control register keeps its fixed bits, the four stored
registers take the value, the ID registers and the maintenance operations change nothing, wait for interrupt sets the
waiting flag, the values that the core refuses and the two read-only operations stop, and so does every id that is
none of these (R120 to R131, R703, R704, R712).
Rests on the spec's own decisions D1 (R123), D8 (R120 to R122, R127, R129 to R131, R703), D9 (R123, R703), D18 (R712),
D19 (R124), D22 (R127), D29 (R129, R130, R703), D32 (R124), D43 (R125). -/
def Obligations.Cp15Writes : Prop :=
  ∀ (s : State) (c : Cond) (rd : RegNum) (op1 : BitVec 3) (crn crm : BitVec 4) (op2 : BitVec 3),
    condPassed c s.cpsr = true → s.privileged = true → rd ≠ 15#4 →
    (let v := s.reg rd
     let mcr (crn crm : BitVec 4) (op2 : BitVec 3) := exec (.armMcr c 0#3 crn rd 15#4 op2 crm) s
     mcr 0#4 0#4 0#3 = .next s ∧ mcr 0#4 0#4 1#3 = .next s
     ∧ (v.getLsbD 7 = false → v.getLsbD 15 = false → ∃ t, mcr 1#4 0#4 0#3 = .next t
        ∧ { t with control := s.control } = s
        ∧ ∀ j, j < 32 → t.control.getLsbD j
          = (if j < 4 ∨ (8 ≤ j ∧ j ≤ 14) then v.getLsbD j else decide (4 ≤ j ∧ j ≤ 6)))
     ∧ (v.getLsbD 7 = true → mcr 1#4 0#4 0#3 = .refused (.unsupported .bigEndian))
     ∧ (v.getLsbD 7 = false → v.getLsbD 15 = true → mcr 1#4 0#4 0#3 = .refused (.unsupported .armv4PcLoad))
     ∧ mcr 2#4 0#4 0#3 = .next { s with ttb := v }
     ∧ mcr 3#4 0#4 0#3 = .next { s with dacr := v }
     ∧ mcr 5#4 0#4 0#3 = .next { s with fsr := v }
     ∧ mcr 6#4 0#4 0#3 = .next { s with far := v }
     ∧ mcr 7#4 0#4 4#3 = .next { s with waiting := true }
     ∧ (∀ x ∈ cp15Maintenance, mcr x.1 x.2.1 x.2.2 = .next s)
     ∧ mcr 7#4 10#4 3#3 = .refused (.unsupported .invalidCp15Access)
     ∧ mcr 7#4 14#4 3#3 = .refused (.unsupported .invalidCp15Access)
     ∧ (v = 0#32 → mcr 13#4 0#4 0#3 = .next s)
     ∧ (v ≠ 0#32 → mcr 13#4 0#4 0#3 = .refused (.unsupported .fcseRelocation))
     ∧ (op1 ≠ 0#3 ∨ (crn, crm, op2) ∉ cp15Ids →
        exec (.armMcr c op1 crn rd 15#4 op2 crm) s = .refused (.unsupported .invalidCp15Id)))
    ∧ exec (.armMcr c op1 crn 15#4 15#4 op2 crm) s = .refused (.unpredictable .mcrFromPc)

/-- MRC from CP15 in a privileged mode, for every id: the register or constant arrives in Rd, or its top four bits in
N, Z, C and V for Rd = 15; wait for interrupt and every write-only operation stop, and so does every id that is not
valid (R120 to R131, R703, R705, R711).
Rests on the spec's own decisions D1 (R123), D8 (R120 to R122, R127, R129 to R131, R703), D9 (R123, R703), D19 (R124),
D22 (R127), D29 (R129, R130, R703), D32 (R124), D35 (R711), D43 (R125). -/
def Obligations.Cp15Reads : Prop :=
  ∀ (s : State) (c : Cond) (rd : RegNum), condPassed c s.cpsr = true → s.privileged = true →
    (∀ x ∈ [((0#4, 0#4, 0#3), s.midr), ((0#4, 0#4, 1#3), s.ctr), ((1#4, 0#4, 0#3), s.control),
        ((2#4, 0#4, 0#3), s.ttb), ((3#4, 0#4, 0#3), s.dacr), ((5#4, 0#4, 0#3), s.fsr), ((6#4, 0#4, 0#3), s.far),
        ((7#4, 10#4, 3#3), 0x40000000#32), ((7#4, 14#4, 3#3), 0x40000000#32), ((13#4, 0#4, 0#3), 0#32)],
      (rd ≠ 15#4 → exec (.armMrc c 0#3 x.1.1 rd 15#4 x.1.2.2 x.1.2.1) s = .next (s.setReg rd x.2))
      ∧ (rd = 15#4 → ∃ t, exec (.armMrc c 0#3 x.1.1 rd 15#4 x.1.2.2 x.1.2.1) s = .next t
          ∧ { t with cpsr := s.cpsr } = s
          ∧ ∀ j, t.cpsr.getLsbD j = if 28 ≤ j then x.2.getLsbD j else s.cpsr.getLsbD j))
    ∧ (∀ x ∈ (7#4, 0#4, 4#3) :: cp15Maintenance,
        exec (.armMrc c 0#3 x.1 rd 15#4 x.2.2 x.2.1) s = .refused (.unsupported .invalidCp15Access))
    ∧ ∀ (op1 : BitVec 3) (crn crm : BitVec 4) (op2 : BitVec 3),
        op1 ≠ 0#3 ∨ (crn, crm, op2) ∉ cp15Ids →
        exec (.armMrc c op1 crn rd 15#4 op2 crm) s = .refused (.unsupported .invalidCp15Id)

/-- The coprocessor forms other than MCR and MRC, with the condition each is tested by. -/
def otherCopForms (c : Cond) (p u n w : Bool) (a b d m cp : BitVec 4) (o1 op2 : BitVec 3) (o8 : BitVec 8) :
    List (Instr × Option Cond) :=
  [(.armCdp c a b d cp op2 m, some c), (.armLdc c p u n w a b cp o8, some c), (.armStc c p u n w a b cp o8, some c),
    (.armMcrr c a b cp d m, some c), (.armMrrc c a b cp d m, some c), (.armCdp2 a b d cp op2 m, none),
    (.armLdc2 p u n w a b cp o8, none), (.armStc2 p u n w a b cp o8, none), (.armMcr2 o1 a b cp op2 m, none),
    (.armMrc2 o1 a b cp op2 m, none)]

/-- A coprocessor instruction whose condition, if it has one, passes: for a coprocessor other than 15 the parameter
ABSENT_CP_POLICY decides, CP15 in User mode raises UndefinedInstruction, and every form but MCR and MRC addressed to
CP15 stops (R700, R702, R706 to R710).
Rests on the spec's own decisions D7 (R700), D10 (R702), D34 (R706 to R710). -/
def Obligations.CoprocessorAccess : Prop :=
  ∀ (s : State) (c : Cond) (p u n w : Bool) (a b d m cp : BitVec 4) (o1 op2 : BitVec 3) (o8 : BitVec 8)
    (f : Instr × Option Cond),
    f ∈ (.armMcr c o1 a b cp op2 m, some c) :: (.armMrc c o1 a b cp op2 m, some c)
      :: otherCopForms c p u n w a b d m cp o1 op2 o8 →
    (∀ c', f.2 = some c' → condPassed c' s.cpsr = true) →
    (cp ≠ 15#4 → s.absentCp = .unsupported → exec f.1 s = .refused (.unsupported .unknownCoprocessor))
    ∧ (cp ≠ 15#4 → s.absentCp = .undefined → s.pending = Pending.empty →
        exec f.1 s = .next { s with pending := { Pending.empty with undefinedInstruction := some .absentCoprocessor } })
    ∧ (cp = 15#4 → psrM s.cpsr = 0b10000#5 → s.pending = Pending.empty →
        exec f.1 s = .next { s with pending := { Pending.empty with undefinedInstruction := some .cp15InUserMode } })
    ∧ (cp = 15#4 → psrM s.cpsr ≠ 0b10000#5 → f ∈ otherCopForms c p u n w a b d m cp o1 op2 o8 →
        exec f.1 s = .refused (.unsupported .formToCp15))

/-! ## Thumb data processing -/

/-- The Thumb shifts: the shifter's result in Rd, N and Z of it, C its carry, V unchanged (R751 to R753, R764 to R766,
R769). -/
def Obligations.ThumbShifts : Prop :=
  ∀ (s : State) (imm5 : BitVec 5) (rm rd : LowReg),
    (let m := s.reg (rm.setWidth 4)
     let d := s.reg (rd.setWidth 4)
     let cf := s.cpsr.getLsbD 29
     let out (sh : Shifted) : Host.Outcome State Fault Refusal :=
       .next { s.setReg (rd.setWidth 4) sh.value with cpsr := logicFlags s.cpsr sh.value sh.carry }
     exec (.thumbLslImm imm5 rm rd) s = out (shiftImm .lsl imm5 m cf)
     ∧ exec (.thumbLsrImm imm5 rm rd) s = out (shiftImm .lsr imm5 m cf)
     ∧ exec (.thumbAsrImm imm5 rm rd) s = out (shiftImm .asr imm5 m cf)
     ∧ exec (.thumbLslReg rm rd) s = out (shiftReg .lsl (m.setWidth 8) d cf)
     ∧ exec (.thumbLsrReg rm rd) s = out (shiftReg .lsr (m.setWidth 8) d cf)
     ∧ exec (.thumbAsrReg rm rd) s = out (shiftReg .asr (m.setWidth 8) d cf)
     ∧ exec (.thumbRor rm rd) s = out (shiftReg .ror (m.setWidth 8) d cf))

/-- The Thumb additions, subtractions and comparisons: the adder's result in Rd, or nowhere for a comparison, and its
four flags; CMP(3) with two low registers stops, by decision D3 of the spec (93_implementation_defined.md G30, log
entry 20) (R754 to R757, R759 to R761, R767, R768, R771 to R773, R779). -/
def Obligations.ThumbArithmetic : Prop :=
  ∀ (s : State) (rm rn rd : LowReg) (i3 : BitVec 3) (i8 : BitVec 8) (h1 h2 : Bool),
    (let r (x : LowReg) := s.reg (x.setWidth 4)
     let cf := s.cpsr.getLsbD 29
     let out (o : AluOut) : Host.Outcome State Fault Refusal :=
       .next { s.setReg (rd.setWidth 4) o.result with cpsr := arithFlags s.cpsr o }
     let cmp (o : AluOut) : Host.Outcome State Fault Refusal := .next { s with cpsr := arithFlags s.cpsr o }
     exec (.thumbAddReg rm rn rd) s = out (addWithCarry (r rn) (r rm) false)
     ∧ exec (.thumbSubReg rm rn rd) s = out (addWithCarry (r rn) (~~~r rm) true)
     ∧ exec (.thumbAddImm3 i3 rn rd) s = out (addWithCarry (r rn) (i3.setWidth 32) false)
     ∧ exec (.thumbSubImm3 i3 rn rd) s = out (addWithCarry (r rn) (~~~i3.setWidth 32) true)
     ∧ exec (.thumbAddImm8 rd i8) s = out (addWithCarry (r rd) (i8.setWidth 32) false)
     ∧ exec (.thumbSubImm8 rd i8) s = out (addWithCarry (r rd) (~~~i8.setWidth 32) true)
     ∧ exec (.thumbAdc rm rd) s = out (addWithCarry (r rd) (r rm) cf)
     ∧ exec (.thumbSbc rm rd) s = out (addWithCarry (r rd) (~~~r rm) cf)
     ∧ exec (.thumbNeg rm rd) s = out (addWithCarry 0#32 (~~~r rm) true)
     ∧ exec (.thumbCmpImm rn i8) s = cmp (addWithCarry (r rn) (~~~i8.setWidth 32) true)
     ∧ exec (.thumbCmpReg rm rd) s = cmp (addWithCarry (r rd) (~~~r rm) true)
     ∧ exec (.thumbCmn rm rd) s = cmp (addWithCarry (r rd) (r rm) false)
     ∧ ((h1 || h2) = true → exec (.thumbCmpHi h1 h2 rm rn) s
          = cmp (addWithCarry (s.reg (BitVec.ofBool h1 ++ rn)) (~~~s.reg (BitVec.ofBool h2 ++ rm)) true))
     ∧ exec (.thumbCmpHi false false rm rn) s = .refused (.unpredictable .twoLowRegisters))

/-- The Thumb logical operations, MOV(1) and MUL: the result in Rd, or nowhere for TST, and N and Z of it; C and V are
unchanged; MUL with Rd = Rm stops (R758, R762, R763, R770, R774 to R777).
Rests on the spec's own decisions D3 (R775). -/
def Obligations.ThumbLogical : Prop :=
  ∀ (s : State) (rm rd : LowReg) (i8 : BitVec 8),
    (let r (x : LowReg) := s.reg (x.setWidth 4)
     let out (v : Word) : Host.Outcome State Fault Refusal :=
       .next { s.setReg (rd.setWidth 4) v with cpsr := nzFlags s.cpsr v }
     exec (.thumbMovImm rd i8) s = out (i8.setWidth 32)
     ∧ exec (.thumbAnd rm rd) s = out (r rd &&& r rm)
     ∧ exec (.thumbEor rm rd) s = out (r rd ^^^ r rm)
     ∧ exec (.thumbOrr rm rd) s = out (r rd ||| r rm)
     ∧ exec (.thumbBic rm rd) s = out (r rd &&& ~~~r rm)
     ∧ exec (.thumbMvn rm rd) s = out (~~~r rm)
     ∧ exec (.thumbTst rm rd) s = .next { s with cpsr := nzFlags s.cpsr (r rd &&& r rm) }
     ∧ (rd ≠ rm → exec (.thumbMul rm rd) s = out (BitVec.ofNat 32 ((r rm).toNat * (r rd).toNat)))
     ∧ (rd = rm → exec (.thumbMul rm rd) s = .refused (.unpredictable .multiplyRegisters)))

/-- ADD(4) and MOV(3) with a register destination and with the PC as destination, which stays in its instruction set
and stops on a misaligned value in ARM state, as decision D11 of the spec says; with two low registers they stop, by
its decision D3 (93_implementation_defined.md G30, log entry 20); the address forms ADD(5) and ADD(6) and the stack
pointer adjustments; no flag changes (R109, R778, R780 to R784).
Rests on the spec's own decisions D11 (R109). -/
def Obligations.ThumbHiAndAddress : Prop :=
  ∀ (s : State) (h1 h2 : Bool) (rm rd : LowReg) (i8 : BitVec 8) (i7 : BitVec 7),
    (let d : RegNum := BitVec.ofBool h1 ++ rd
     let m : RegNum := BitVec.ofBool h2 ++ rm
     let out (v : Word) : Host.Outcome State Fault Refusal :=
       if d = 15#4 then
         match s.aluTo v with
         | some t => .next t
         | none => .refused (.unpredictable .armPcWrite)
       else .next (s.setReg d v)
     ((h1 || h2) = true → exec (.thumbAddHi h1 h2 rm rd) s = out (s.reg d + s.reg m)
        ∧ exec (.thumbMovHi h1 h2 rm rd) s = out (s.reg m))
     ∧ exec (.thumbAddHi false false rm rd) s = .refused (.unpredictable .twoLowRegisters)
     ∧ exec (.thumbMovHi false false rm rd) s = .refused (.unpredictable .twoLowRegisters))
    ∧ exec (.thumbAddPc rd i8) s
      = .next (s.setReg (rd.setWidth 4) (((s.pc + 4#32) &&& 0xFFFFFFFC#32) + BitVec.ofNat 32 (4 * i8.toNat)))
    ∧ exec (.thumbAddSp rd i8) s
      = .next (s.setReg (rd.setWidth 4) (s.reg 13#4 + BitVec.ofNat 32 (4 * i8.toNat)))
    ∧ exec (.thumbAddSpImm7 i7) s = .next (s.setReg 13#4 (s.reg 13#4 + BitVec.ofNat 32 (4 * i7.toNat)))
    ∧ exec (.thumbSubSpImm7 i7) s = .next (s.setReg 13#4 (s.reg 13#4 - BitVec.ofNat 32 (4 * i7.toNat)))

/-! ## Thumb memory -/

/-- The Thumb loads: the rotated word, the byte or the halfword at the rule's address, extended as the rule says, in
Rd and nothing else changed (R207, R504, R800, R804 to R808, R810, R812, R814, R816).
Rests on the spec's own decisions D16 (R207), D36 (R207). -/
def Obligations.ThumbLoads : Prop :=
  ∀ (s : State) (rm rn rd : LowReg) (i5 : BitVec 5) (i8 : BitVec 8) (i : Instr) (a pa : Word),
    (let r (x : LowReg) := s.reg (x.setWidth 4)
     let byte := s.mem.readByte pa.toNat
     let half := s.mem.read .half (pa &&& 0xFFFFFFFE#32)
     let word := (s.mem.read .word (pa &&& 0xFFFFFFFC#32)).rotateRight (8 * (a.toNat % 4))
     let out (v : Word) : Host.Outcome State Fault Refusal := .next (s.setReg (rd.setWidth 4) v)
     ((i, a) ∈ [(.thumbLdrPc rd i8, ((s.pc + 4#32) &&& 0xFFFFFFFC#32) + BitVec.ofNat 32 (4 * i8.toNat)),
          (.thumbLdrReg rm rn rd, r rn + r rm), (.thumbLdrImm i5 rn rd, r rn + BitVec.ofNat 32 (4 * i5.toNat)),
          (.thumbLdrSp rd i8, s.reg 13#4 + BitVec.ofNat 32 (4 * i8.toNat))] →
        s.loadsAt a .word s.privileged pa → exec i s = out word)
     ∧ ((i, a) ∈ [(.thumbLdrbReg rm rn rd, r rn + r rm),
          (.thumbLdrbImm i5 rn rd, r rn + BitVec.ofNat 32 i5.toNat)] →
        s.loadsAt a .byte s.privileged pa → exec i s = out (byte.setWidth 32))
     ∧ ((i, a) = (.thumbLdrsb rm rn rd, r rn + r rm) →
        s.loadsAt a .byte s.privileged pa → exec i s = out (byte.signExtend 32))
     ∧ ((i, a) ∈ [(.thumbLdrhReg rm rn rd, r rn + r rm),
          (.thumbLdrhImm i5 rn rd, r rn + BitVec.ofNat 32 (2 * i5.toNat))] →
        (s.oddHalfword a = false → s.loadsAt a .half s.privileged pa → exec i s = out half)
        ∧ (s.oddHalfword a = true → exec i s = .refused (.unpredictable .misalignedHalfword)))
     ∧ ((i, a) = (.thumbLdrsh rm rn rd, r rn + r rm) →
        (s.oddHalfword a = false → s.loadsAt a .half s.privileged pa →
          exec i s = out ((half.extractLsb' 0 16).signExtend 32))
        ∧ (s.oddHalfword a = true → exec i s = .refused (.unpredictable .misalignedHalfword))))

/-- The Thumb stores: Rd's low bytes in the aligned unit that holds the rule's address, and nothing else changed
(R202, R205, R207, R801 to R803, R809, R811, R813, R815).
Rests on the spec's own decisions D1 (R202), D16 (R207), D20 (R205), D36 (R207). -/
def Obligations.ThumbStores : Prop :=
  ∀ (s : State) (rm rn rd : LowReg) (i5 : BitVec 5) (i8 : BitVec 8) (i : Instr) (a pa : Word), s.mem.wf = true →
    (let r (x : LowReg) := s.reg (x.setWidth 4)
     ((i, a) ∈ [(.thumbStrReg rm rn rd, r rn + r rm), (.thumbStrImm i5 rn rd, r rn + BitVec.ofNat 32 (4 * i5.toNat)),
          (.thumbStrSp rd i8, s.reg 13#4 + BitVec.ofNat 32 (4 * i8.toNat))] →
        s.storesAt a .word s.privileged pa → ∃ t, storedAt s t .word pa (r rd) ∧ exec i s = .next t)
     ∧ ((i, a) ∈ [(.thumbStrbReg rm rn rd, r rn + r rm),
          (.thumbStrbImm i5 rn rd, r rn + BitVec.ofNat 32 i5.toNat)] →
        s.storesAt a .byte s.privileged pa → ∃ t, storedAt s t .byte pa (r rd) ∧ exec i s = .next t)
     ∧ ((i, a) ∈ [(.thumbStrhReg rm rn rd, r rn + r rm),
          (.thumbStrhImm i5 rn rd, r rn + BitVec.ofNat 32 (2 * i5.toNat))] →
        (s.oddHalfword a = false → s.storesAt a .half s.privileged pa →
          ∃ t, storedAt s t .half pa (r rd) ∧ exec i s = .next t)
        ∧ (s.oddHalfword a = true → exec i s = .refused (.unpredictable .misalignedHalfword))))

/-- PUSH and STMIA: when every word can be stored, the words of the list's registers at ascending addresses, then the
base or the stack pointer; a store that aborts keeps the words stored before it and leaves every register as it was;
an empty list and an STMIA list that holds the base but not as its lowest stop (R552, R817, R821).
Rests on the spec's own decisions D17 (R552), D40 (R817, R821). -/
def Obligations.ThumbStoreMultiple : Prop :=
  ∀ (s t : State) (lr : Bool) (rn : LowReg) (list : BitVec 8), s.faultFlag = false →
    (let full := list.setWidth 16 ||| (if lr then 0x4000#16 else 0#16)
     let sp := s.reg 13#4 - BitVec.ofNat 32 (4 * (listRegs full).length)
     (full ≠ 0#16 → storeWords s.privileged s ((listRegs full).map s.reg) sp = some t →
        exec (.thumbPush lr list) s = .next (t.setReg 13#4 sp))
     ∧ ∀ k q v, s.pending = Pending.empty → k < (listRegs full).length →
        storeWords s.privileged s (((listRegs full).map s.reg).take k) sp = some q →
        q.abortsAt (sp + BitVec.ofNat 32 (4 * k)) .word s.privileged false v → exec (.thumbPush lr list) s = .next v)
    ∧ exec (.thumbPush false 0#8) s = .refused (.unpredictable .blockList)
    ∧ (let regs := listRegs (list.setWidth 16)
       let b := s.reg (rn.setWidth 4)
       list ≠ 0#8 → (list.getLsbD rn.toNat = true → ∀ k, k < rn.toNat → list.getLsbD k = false) →
        (storeWords s.privileged s (regs.map s.reg) b = some t →
          exec (.thumbStmia rn list) s = .next (t.setReg (rn.setWidth 4) (b + BitVec.ofNat 32 (4 * regs.length))))
        ∧ ∀ k q v, s.pending = Pending.empty → k < regs.length →
          storeWords s.privileged s ((regs.map s.reg).take k) b = some q →
          q.abortsAt (b + BitVec.ofNat 32 (4 * k)) .word s.privileged false v →
          exec (.thumbStmia rn list) s = .next v)
    ∧ (list = 0#8 ∨ (list.getLsbD rn.toNat = true ∧ ∃ k, k < rn.toNat ∧ list.getLsbD k = true) →
        exec (.thumbStmia rn list) s = .refused (.unpredictable .blockList))

/-- POP and LDMIA: when every word can be loaded, the stack pointer or the base, then the registers of the list, then
the PC, which exchanges, each register of the list holding its word afterwards; a load that aborts leaves every
register as it was; an empty list stops (R109, R552, R818, R819).
Rests on the spec's own decisions D11 (R109), D17 (R552), D40 (R818, R819). -/
def Obligations.ThumbLoadMultiple : Prop :=
  ∀ (s : State) (rn : LowReg) (list : BitVec 8) (vs : List (RegNum × Word)), s.faultFlag = false →
    (let regs := listRegs (list.setWidth 16)
     let t := (s.setReg 13#4 (s.reg 13#4 + BitVec.ofNat 32 (4 * regs.length))).setRegs vs
     list ≠ 0#8 → s.loadWords s.privileged regs (s.reg 13#4) = some vs →
      exec (.thumbPop false list) s = .next t ∧ ∀ r v, (r, v) ∈ vs → t.reg r = v)
    ∧ (let regs := listRegs (list.setWidth 16 ||| 0x8000#16)
       let t := (s.setReg 13#4 (s.reg 13#4 + BitVec.ofNat 32 (4 * regs.length))).setRegs vs
       s.loadWords s.privileged regs (s.reg 13#4) = some vs →
        (∀ v, (15#4, v) ∈ vs → exec (.thumbPop true list) s
          = match t.exchangeTo v with
            | some t' => .next t'
            | none => .refused (.unpredictable .bxToArm))
        ∧ (∀ r v, (r, v) ∈ vs → r ≠ 15#4 → t.reg r = v)
        ∧ t.reg 13#4 = s.reg 13#4 + BitVec.ofNat 32 (4 * regs.length))
    ∧ (∀ pc k t, s.pending = Pending.empty →
        (let regs := listRegs (list.setWidth 16 ||| (if pc then 0x8000#16 else 0#16))
         k < regs.length → (s.loadWords s.privileged (regs.take k) (s.reg 13#4)).isSome = true →
          s.abortsAt (s.reg 13#4 + BitVec.ofNat 32 (4 * k)) .word s.privileged true t →
          exec (.thumbPop pc list) s = .next t)
        ∧ (let regs := listRegs (list.setWidth 16)
           let b := s.reg (rn.setWidth 4)
           k < regs.length → (s.loadWords s.privileged (regs.take k) b).isSome = true →
            s.abortsAt (b + BitVec.ofNat 32 (4 * k)) .word s.privileged true t →
            exec (.thumbLdmia rn list) s = .next t))
    ∧ exec (.thumbPop false 0#8) s = .refused (.unpredictable .blockList)
    ∧ (let regs := listRegs (list.setWidth 16)
       let b := s.reg (rn.setWidth 4)
       let t := (s.setReg (rn.setWidth 4) (b + BitVec.ofNat 32 (4 * regs.length))).setRegs vs
       list ≠ 0#8 → s.loadWords s.privileged regs b = some vs →
        exec (.thumbLdmia rn list) s = .next t ∧ (∀ r v, (r, v) ∈ vs → t.reg r = v)
        ∧ (list.getLsbD rn.toNat = false → t.reg (rn.setWidth 4) = b + BitVec.ofNat 32 (4 * regs.length)))
    ∧ exec (.thumbLdmia rn 0#8) s = .refused (.unpredictable .blockList)

/-! ## Exceptions and interrupts -/

/-- Entering an exception: its mode, T clear, I set, F set by reset and FIQ only, the other CPSR bits carried; the old
CPSR in the entered bank's SPSR and the return address in its R14, which reset does not write; the vector in the PC;
every other register, CP15 register, flag and byte as before (R910 to R916).
Rests on the spec's own decisions D6 (R913), D31 (R916), D46 (R913). -/
def Obligations.ExceptionEntry : Prop :=
  ∀ (s : State) (k : ExcKind),
    (let t := s.enterException k
     (psrM t.cpsr = match k with
        | .reset => 0b10011#5 | .undefinedInstruction => 0b11011#5 | .softwareInterrupt => 0b10011#5
        | .prefetchAbort => 0b10111#5 | .dataAbort => 0b10111#5 | .irq => 0b10010#5 | .fiq => 0b10001#5)
     ∧ psrT t.cpsr = false ∧ psrI t.cpsr = true
     ∧ psrF t.cpsr = (if k = .reset ∨ k = .fiq then true else psrF s.cpsr)
     ∧ (∀ j, 8 ≤ j → t.cpsr.getLsbD j = s.cpsr.getLsbD j)
     ∧ t.mode.bank = some k.bank
     ∧ t.spsr.get k.bank = s.cpsr ∧ (∀ b, b ≠ k.bank → t.spsr.get b = s.spsr.get b)
     ∧ (k = .reset → t.regs = s.regs)
     ∧ (k ≠ .reset →
        (t.reg 14#4 = match k with
          | .reset => t.reg 14#4
          | .undefinedInstruction => s.pc + (if psrT s.cpsr then 2#32 else 4#32)
          | .softwareInterrupt => s.pc + (if psrT s.cpsr then 2#32 else 4#32)
          | .prefetchAbort => s.pc + 4#32
          | .dataAbort => s.pc + 8#32
          | .irq => s.pc + (if s.irqLrOffset = .eight then 8#32 else 4#32)
          | .fiq => s.pc + (if s.irqLrOffset = .eight then 8#32 else 4#32))
        ∧ ∀ q, t.mode.cell 14#4 ≠ some q → t.regs.get q = s.regs.get q)
     ∧ t.pc = (if s.control.getLsbD 13 then 0xFFFF0000#32 else 0#32)
        + (match k with
          | .reset => 0x00#32 | .undefinedInstruction => 0x04#32 | .softwareInterrupt => 0x08#32
          | .prefetchAbort => 0x0C#32 | .dataAbort => 0x10#32 | .irq => 0x18#32 | .fiq => 0x1C#32)
     ∧ { t with cpsr := s.cpsr, spsr := s.spsr, regs := s.regs, pc := s.pc } = s)

/-- A step that starts with one exception pending is the step from the handler's first instruction: the entry and the
fetch at the vector are of one step (R900, R907).
Rests on the spec's own decisions D5 (R900, R907), D18 (R900). -/
def Obligations.PendingIsEnteredFirst : Prop :=
  ∀ (s : State) (k : ExcKind) (why : Reason), s.waiting = false →
    s.pending = Pending.empty.set k (some why) →
    step s = step ({ s with pending := Pending.empty }.enterException k)

/-- The return idioms: after the entry of an exception from a state with a legal mode and an aligned PC, the handler's
MOVS pc, lr (undefined instruction and SWI) and SUBS pc, lr with the entry's offset (aborts and interrupts) restore
the CPSR, go on at the next instruction or at the interrupted one, and leave everything else as the entry did (R913,
R921).
Rests on the spec's own decisions D6 (R913), D46 (R913) and its own inferences [derived] R921. -/
def Obligations.ReturnFromHandler : Prop :=
  ∀ (s : State) (k : ExcKind), s.modeLegal → s.pcAligned →
    (let h := s.enterException k
     let back (d : Word) : State := { h with cpsr := s.cpsr, pc := s.pc + d, jumped := true }
     (k = .undefinedInstruction ∨ k = .softwareInterrupt →
        exec (.armMov .al true 0#4 15#4 (.immShift 14#4 .lsl 0#5)) h
          = .next (back (if psrT s.cpsr then 2#32 else 4#32)))
     ∧ (k = .prefetchAbort → exec (.armSub .al true 14#4 15#4 (.imm 0#4 4#8)) h = .next (back 0#32))
     ∧ (k = .dataAbort → exec (.armSub .al true 14#4 15#4 (.imm 0#4 8#8)) h = .next (back 0#32))
     ∧ (k = .irq ∨ k = .fiq → s.irqLrOffset = .eight →
        exec (.armSub .al true 14#4 15#4 (.imm 0#4 8#8)) h = .next (back 0#32))
     ∧ (k = .irq ∨ k = .fiq → s.irqLrOffset = .four →
        exec (.armSub .al true 14#4 15#4 (.imm 0#4 4#8)) h = .next (back 0#32)))

/-- The lines are sampled after the dispatch and before the fetch: an asserted FIQ with F clear is requested, else an
asserted IRQ with I clear, and the step ends there; masked lines leave the step as with both lines low (R900, R931,
R932).
Rests on the spec's own decisions D5 (R900, R931), D18 (R900). -/
def Obligations.InterruptsAreSampled : Prop :=
  ∀ (s : State) (rest : List Lines) (irq fiq : Bool), s.waiting = false → s.lines = ⟨irq, fiq⟩ :: rest →
    s.onePending →
    (let d := { s with lines := rest }.dispatch
     (fiq = true → psrF d.cpsr = false → step s
        = .next { d with pending := { Pending.empty with fiq := some .fiqLine }, faultFlag := false, jumped := false })
     ∧ ((fiq && !psrF d.cpsr) = false → irq = true → psrI d.cpsr = false → step s
        = .next { d with pending := { Pending.empty with irq := some .irqLine }, faultFlag := false, jumped := false })
     ∧ ((fiq && !psrF d.cpsr) = false → (irq && !psrI d.cpsr) = false →
        step s = step { s with lines := ⟨false, false⟩ :: rest }))

/-- While the core waits and both lines are low a step changes nothing but the line schedule; either line, masked or
not, makes the step that of the core no longer waiting. That both lines are low past the end of the schedule is the
model's choice (DESIGN CHOICE, log entry 10), and that an idle step is a next state is DEDUCED (log entry 18) (R712,
R900, R950).
Rests on the spec's own decisions D5 (R900), D18 (R712, R900, R950). -/
def Obligations.WaitForInterrupt : Prop :=
  ∀ (s : State) (rest : List Lines) (irq fiq : Bool), s.waiting = true →
    (s.lines = ⟨irq, fiq⟩ :: rest → irq = false → fiq = false → step s = .next { s with lines := rest })
    ∧ (s.lines = [] → step s = .next s)
    ∧ (s.lines = ⟨irq, fiq⟩ :: rest → irq = true ∨ fiq = true → step s = step { s with waiting := false })

/-! ## Address translation -/

/-- The first steps of a translation: the identity with the MMU off, whatever A holds; the alignment fault before any
table is read; the failed read and the fault entry of the first level (R210 to R214, R225).
Rests on the spec's own decisions D22 (R225), D44 (R213). -/
def Obligations.TranslationStarts : Prop :=
  ∀ (s : State) (va : Word) (n : AccSize) (priv isRead : Bool),
    (s.control.getLsbD 0 = false → s.translation va n priv isRead = .ok va)
    ∧ (s.control.getLsbD 0 = true →
      (s.control.getLsbD 1 = true → va.toNat % n.bytes ≠ 0 →
        s.translation va n priv isRead = .fault .align none)
      ∧ (s.control.getLsbD 1 = false ∨ va.toNat % n.bytes = 0 →
        (let l1 := BitVec.ofNat 32 (s.ttb.toNat / 2 ^ 14 * 2 ^ 14 + va.toNat / 2 ^ 20 * 4)
         (tryRead s .word l1 = false → s.translation va n priv isRead = .fault .extL1 none)
         ∧ (tryRead s .word l1 = true → (s.mem.read .word l1).extractLsb' 0 2 = 0b00#2 →
            s.translation va n priv isRead = .fault .transSection none))))

/-- A section: the base of the descriptor with the low twenty bits of the address, after the domain check and, for a
client, the permission check, each with its fault and the descriptor's domain, and with the stop of R223's reserved
row, which is the spec's decision D24 (log entry 20); no second-level table is read (R214, R215, R222, R223).
Rests on the spec's own decisions D24 (R223). -/
def Obligations.SectionTranslation : Prop :=
  ∀ (s : State) (va : Word) (n : AccSize) (priv isRead : Bool), s.mmuOn = true →
    (s.alignCheck && !n.aligned va) = false → tryRead s .word (l1Address s.ttb va) = true →
    (let d1 := s.mem.read .word (l1Address s.ttb va)
     let dom := d1.extractLsb' 5 4
     let ctl := s.dacr.extractLsb' (2 * dom.toNat) 2
     let pa := BitVec.ofNat 32 (d1.toNat / 2 ^ 20 * 2 ^ 20 + va.toNat % 2 ^ 20)
     d1.extractLsb' 0 2 = 0b10#2 →
      (ctl = 0b00#2 ∨ ctl = 0b10#2 → s.translation va n priv isRead = .fault .domainSection (some dom))
      ∧ (ctl = 0b11#2 → s.translation va n priv isRead = .ok pa)
      ∧ (ctl = 0b01#2 →
        s.translation va n priv isRead =
          match s.permits (d1.extractLsb' 10 2) priv isRead with
          | some true => .ok pa
          | some false => .fault .permSection (some dom)
          | none => .refused (.unpredictable .reservedPermission)))

/-- A page: the second-level descriptor of the coarse or fine table, the large, small or tiny page it maps, with the
sub-page's permission field, after the domain check and, for a client, the permission check, each with its fault and
the first level's domain, and the faults and stops of the second level, that of R223's reserved row among them, the
spec's decision D24 (log entry 20) (R216 to R223).
Rests on the spec's own decisions D23 (R217), D24 (R223). -/
def Obligations.PageTranslation : Prop :=
  ∀ (s : State) (va : Word) (n : AccSize) (priv isRead fine : Bool), s.mmuOn = true →
    (s.alignCheck && !n.aligned va) = false → tryRead s .word (l1Address s.ttb va) = true →
    (let d1 := s.mem.read .word (l1Address s.ttb va)
     let dom := d1.extractLsb' 5 4
     let l2 := if fine then BitVec.ofNat 32 (d1.toNat / 2 ^ 12 * 2 ^ 12 + va.toNat / 2 ^ 10 % 2 ^ 10 * 4)
       else BitVec.ofNat 32 (d1.toNat / 2 ^ 10 * 2 ^ 10 + va.toNat / 2 ^ 12 % 2 ^ 8 * 4)
     let d2 := s.mem.read .word l2
     let page (k : Nat) : Word := BitVec.ofNat 32 (d2.toNat / 2 ^ k * 2 ^ k + va.toNat % 2 ^ k)
     let sub (k : Nat) : BitVec 2 := d2.extractLsb' (4 + 2 * (va.toNat / 2 ^ k % 4)) 2
     let ctl := s.dacr.extractLsb' (2 * dom.toNat) 2
     let out (ap : BitVec 2) (pa : Word) : Translation :=
       if ctl = 0b00#2 ∨ ctl = 0b10#2 then .fault .domainPage (some dom)
       else if ctl = 0b11#2 then .ok pa
       else
         match s.permits ap priv isRead with
         | some true => .ok pa
         | some false => .fault .permPage (some dom)
         | none => .refused (.unpredictable .reservedPermission)
     d1.extractLsb' 0 2 = (if fine then 0b11#2 else 0b01#2) →
      (tryRead s .word l2 = false → s.translation va n priv isRead = .fault .extL2 (some dom))
      ∧ (tryRead s .word l2 = true →
        (d2.extractLsb' 0 2 = 0b00#2 → s.translation va n priv isRead = .fault .transPage (some dom))
        ∧ (d2.extractLsb' 0 2 = 0b01#2 → s.translation va n priv isRead
            = if fine then .refused (.unsupported .largePageInFineTable) else out (sub 14) (page 16))
        ∧ (d2.extractLsb' 0 2 = 0b10#2 → s.translation va n priv isRead = out (sub 10) (page 12))
        ∧ (d2.extractLsb' 0 2 = 0b11#2 → s.translation va n priv isRead
            = if fine then out (d2.extractLsb' 4 2) (page 10)
              else .refused (.unsupported .tinyPageInCoarseTable))))

/-- The permission table by AP, S, R, privilege and direction (R223).
Rests on the spec's own decisions D24 (R223). -/
def Obligations.PermissionTable : Prop :=
  ∀ (s : State) (priv isRead : Bool),
    (s.control.getLsbD 8 = false → s.control.getLsbD 9 = false → s.permits 0b00#2 priv isRead = some false)
    ∧ (s.control.getLsbD 8 = true → s.control.getLsbD 9 = false →
        s.permits 0b00#2 priv isRead = some (priv && isRead))
    ∧ (s.control.getLsbD 8 = false → s.control.getLsbD 9 = true → s.permits 0b00#2 priv isRead = some isRead)
    ∧ (s.control.getLsbD 8 = true → s.control.getLsbD 9 = true → s.permits 0b00#2 priv isRead = none)
    ∧ s.permits 0b01#2 priv isRead = some priv
    ∧ s.permits 0b10#2 priv isRead = some (priv || isRead)
    ∧ s.permits 0b11#2 priv isRead = some true

/-- The ARM loads and stores with an address of mode 2 and the mode's own privilege: instruction, size, a load or not
(R505 to R508). -/
def mode2Accesses (c : Cond) (u : Bool) (ix : Indexing) (rn rd : RegNum) (off : Offset2) :
    List (Instr × AccSize × Bool) :=
  [(.armLdr c u ix rn rd off, .word, true), (.armStr c u ix rn rd off, .word, false),
    (.armLdrb c u ix rn rd off, .byte, true), (.armStrb c u ix rn rd off, .byte, false)]

/-- The ARM loads and stores with User permissions (R509 to R512). -/
def userAccesses (c : Cond) (u : Bool) (rn rd : RegNum) (off : Offset2) : List (Instr × AccSize × Bool) :=
  [(.armLdrt c u rn rd off, .word, true), (.armStrt c u rn rd off, .word, false),
    (.armLdrbt c u rn rd off, .byte, true), (.armStrbt c u rn rd off, .byte, false)]

/-- The ARM loads and stores of one register with an address of mode 3 (R514 to R517). -/
def mode3Accesses (c : Cond) (p u w : Bool) (rn rd : RegNum) (off : Offset3) : List (Instr × AccSize × Bool) :=
  [(.armLdrh c p u w rn rd off, .half, true), (.armStrh c p u w rn rd off, .half, false),
    (.armLdrsb c p u w rn rd off, .byte, true), (.armLdrsh c p u w rn rd off, .half, true)]

/-- The Thumb loads and stores of one register: instruction, address, size, a load or not (R800 to R816). -/
def thumbAccesses (s : State) (rm rn rd : LowReg) (i5 : BitVec 5) (i8 : BitVec 8) :
    List (Instr × Word × AccSize × Bool) :=
  let sum := s.reg (rn.setWidth 4) + s.reg (rm.setWidth 4)
  let plus (k : Nat) : Word := s.reg (rn.setWidth 4) + BitVec.ofNat 32 (k * i5.toNat)
  let sp := s.reg 13#4 + BitVec.ofNat 32 (4 * i8.toNat)
  [(.thumbLdrPc rd i8, ((s.pc + 4#32) &&& 0xFFFFFFFC#32) + BitVec.ofNat 32 (4 * i8.toNat), .word, true),
    (.thumbStrReg rm rn rd, sum, .word, false), (.thumbStrhReg rm rn rd, sum, .half, false),
    (.thumbStrbReg rm rn rd, sum, .byte, false), (.thumbLdrsb rm rn rd, sum, .byte, true),
    (.thumbLdrReg rm rn rd, sum, .word, true), (.thumbLdrhReg rm rn rd, sum, .half, true),
    (.thumbLdrbReg rm rn rd, sum, .byte, true), (.thumbLdrsh rm rn rd, sum, .half, true),
    (.thumbStrImm i5 rn rd, plus 4, .word, false), (.thumbLdrImm i5 rn rd, plus 4, .word, true),
    (.thumbStrbImm i5 rn rd, plus 1, .byte, false), (.thumbLdrbImm i5 rn rd, plus 1, .byte, true),
    (.thumbStrhImm i5 rn rd, plus 2, .half, false), (.thumbLdrhImm i5 rn rd, plus 2, .half, true),
    (.thumbStrSp rd i8, sp, .word, false), (.thumbLdrSp rd i8, sp, .word, true)]

/-- A data access that the MMU faults: FSR holds the fault's status code and its domain, FAR the address, the sticky
flag is set and DataAbort is requested, for a load and for a store; no register, no byte and no other flag changes. An
UNKNOWN domain may be any value. A data access whose bus probe fails requests DataAbort and leaves FSR and FAR. So
abort the word, byte and halfword forms of both instruction sets, none with its base written back. A step whose fetch
the MMU or the bus refuses requests PrefetchAbort and ends, with the PC as it was; where it is the second halfword of
a 32-bit Thumb instruction that is refused, FAR holds its address, the PC plus 2 (R204 to R206, R224, R225, R300,
R501, R900, R901).
Rests on the spec's own decisions D5 (R900), D12 (R300), D18 (R900), D20 (R204 to R206), D21 (R224), D22 (R225) and
its own inferences [derived] R901. -/
def Obligations.FaultIsRecorded : Prop :=
  ∀ (s : State) (c : Cond) (u : Bool) (ix : Indexing) (rn rd : RegNum) (off : Offset2) (st : FaultStatus)
    (dom : Option (BitVec 4)) (isRead : Bool), condPassed c s.cpsr = true → s.faultFlag = false →
    s.pending = Pending.empty →
    (offset2UsesPc off = false → mode2Restricted ix rn rd = false →
     let a := (s.mode2Address u ix rn off).ea
     let i : Instr := if isRead then .armLdr c u ix rn rd off else .armStr c u ix rn rd off
     (∀ pa, s.translation a .word s.privileged isRead = .ok pa →
      (if isRead then tryRead s .word (pa &&& 0xFFFFFFFC#32) else tryWrite s .word (pa &&& 0xFFFFFFFC#32)) = false →
      ∃ why, exec i s = .next { s with pending := { Pending.empty with dataAbort := some why } })
     ∧ (s.translation a .word s.privileged isRead = .fault st dom →
      ∃ t, exec i s = .next t
        ∧ t.far = a ∧ t.faultFlag = true
        ∧ t.pending = { Pending.empty with dataAbort := some .mmuFault }
        ∧ t.fsr.extractLsb' 0 4 = (match st with
          | .align => 0b0001#4 | .extL1 => 0b1100#4 | .extL2 => 0b1110#4 | .transSection => 0b0101#4
          | .transPage => 0b0111#4 | .domainSection => 0b1001#4 | .domainPage => 0b1011#4
          | .permSection => 0b1101#4 | .permPage => 0b1111#4)
        ∧ (∀ d, dom = some d → t.fsr.extractLsb' 4 4 = d)
        ∧ t.fsr.extractLsb' 8 24 = 0#24
        ∧ { t with far := s.far, fsr := s.fsr, faultFlag := false, pending := Pending.empty, draws := s.draws } = s))
    ∧ (let n : AccSize := if psrT s.cpsr then .half else .word
       let q : State := { s.sampled with faultFlag := false, jumped := false }
       s.waiting = false → (s.currentLines.fiq && !psrF s.cpsr) = false → (s.currentLines.irq && !psrI s.cpsr) = false →
        (s.translation s.pc n s.privileged true = .fault st dom →
          step s = .next { q.recordFault s.pc st dom with
            pending := { Pending.empty with prefetchAbort := some .mmuFault }, faultFlag := false })
        ∧ (∀ pa, s.translation s.pc n s.privileged true = .ok pa → tryRead s n pa = false →
          ∃ why, step s = .next { q with pending := { Pending.empty with prefetchAbort := some why } })
        ∧ ∀ pa, psrT s.cpsr = true → s.fetchesAt s.pc .half pa →
          isThumb32Prefix ((s.mem.read .half pa).setWidth 16) = true →
          (s.translation (s.pc + 2#32) .half s.privileged true = .fault st dom →
            ∃ t, step s = .next t ∧ t.far = s.pc + 2#32
              ∧ t = { q.recordFault (s.pc + 2#32) st dom with
                  pending := { Pending.empty with prefetchAbort := some .mmuFault }, faultFlag := false })
          ∧ ∀ pa2, s.translation (s.pc + 2#32) .half s.privileged true = .ok pa2 → tryRead s .half pa2 = false →
            ∃ why, step s = .next { q with pending := { Pending.empty with prefetchAbort := some why } })
    ∧ (∀ x t, offset2UsesPc off = false →
        (x ∈ mode2Accesses c u ix rn rd off → mode2Restricted ix rn rd = false → (x.2.1 = .byte → rd ≠ 15#4) →
          s.abortsAt (s.mode2Address u ix rn off).ea x.2.1 s.privileged x.2.2 t → exec x.1 s = .next t)
        ∧ (x ∈ userAccesses c u rn rd off → mode2Restricted .postIndexed rn rd = false →
          (x.2.1 = .byte ∨ x.2.2 = true → rd ≠ 15#4) →
          s.abortsAt (s.mode2Address u .postIndexed rn off).ea x.2.1 false x.2.2 t → exec x.1 s = .next t))
    ∧ (∀ x t (off3 : Offset3) (p w : Bool), x ∈ mode3Accesses c p u w rn rd off3 → rd ≠ 15#4 →
        offset3UsesPc off3 = false → offset3SbOk off3 = true → mode3Restricted p w rn rd = false →
        (let a := (s.mode3Address p u w rn off3).ea
         (x.2.1 = .half → s.oddHalfword a = false) → s.abortsAt a x.2.1 s.privileged x.2.2 t → exec x.1 s = .next t))
    ∧ (∀ x t (rm rn rd : LowReg) (i5 : BitVec 5) (i8 : BitVec 8), x ∈ thumbAccesses s rm rn rd i5 i8 →
        (x.2.2.1 = .half → s.oddHalfword x.2.1 = false) →
        s.abortsAt x.2.1 x.2.2.1 s.privileged x.2.2.2 t → exec x.1 s = .next t)

/-! ## Registers, reset, and the whole machine -/

/-- The banks: a register written in one mode reads so in that mode; r0 to r7 read so in every mode, r8 to r12 in
every mode but FIQ or in FIQ alone, r13 and r14 in the modes of one bank only; the PC is no bank's. The User-bank
access reads and writes what User and System mode read and write, whatever the mode. Each exception mode has the SPSR
of its own bank, no other mode has one, and an SPSR's write changes no other SPSR (R101 to R104, R555). -/
def Obligations.BankedRegisters : Prop :=
  ∀ (s : State) (m m' : Mode) (n n' : RegNum) (v : Word), n ≠ 15#4 →
    (let inMode (t : State) (k : Mode) : State := { t with cpsr := withM t.cpsr k }
     let w := (inMode s m).setReg n v
     (w.reg n = v)
     ∧ (n' ≠ n → (inMode w m').reg n' = (inMode s m').reg n')
     ∧ (n.toNat < 8 → (inMode w m').reg n = v)
     ∧ (8 ≤ n.toNat → n.toNat < 13 →
        (inMode w m').reg n = if (m = .fiq ↔ m' = .fiq) then v else (inMode s m').reg n)
     ∧ (13 ≤ n.toNat → (inMode w m').reg n = if m.bank = m'.bank then v else (inMode s m').reg n)
     ∧ s.userReg n = (inMode s .usr).reg n ∧ s.userReg n = (inMode s .sys).reg n
     ∧ (s.setUserReg n v).userReg n = v ∧ { (inMode s .usr).setReg n v with cpsr := s.cpsr } = s.setUserReg n v
     ∧ ((inMode s m).mode.bank = match m with
        | .usr => none | .fiq => some .fiq | .irq => some .irq | .svc => some .svc | .abt => some .abt
        | .und => some .und | .sys => none)
     ∧ ∀ b b' : Bank, (s.spsr.set b v).get b' = if b' = b then v else s.spsr.get b')

/-- The machine after reset: what the spec states of it, and the first step, which is the step from the reset vector
in Supervisor mode and ARM state with both interrupts masked, whatever memory holds and whatever the lines are (R115,
R124, R140 to R142, R145, R916, R1000). The unlisted registers' values are the model's choice and not stated.
Rests on the spec's own decisions D19 (R115, R124, R1000), D31 (R916, R1000), D32 (R124, R1000) and its own inferences
[derived] R145. -/
def Obligations.ResetState : Prop :=
  ∀ (hivecs : Bool) (m : Memory) (l : List Lines),
    State.reset = State.powerOn false
    ∧ (let s := State.powerOn hivecs
       s.cpsr = 0x000000D3#32 ∧ s.control = BitVec.ofNat 32 (0x70 + (if hivecs then 2 ^ 13 else 0))
       ∧ s.pending.first = some .reset ∧ s.faultFlag = false ∧ s.waiting = false ∧ s.jumped = false
       ∧ (let p : State := { s with mem := m, lines := l }
          let e : State := { p with
            pending := Pending.empty
            spsr := p.spsr.set .svc 0x000000D3#32
            pc := if hivecs then 0xFFFF0000#32 else 0#32 }
          p.dispatch = e ∧ step p = step { e with lines := ⟨false, false⟩ :: l.tail }))

/-- The invariant holds after reset, at both values of HIVECS_INIT (R111, R115, R124, R140, R145). The PC is aligned
because the model chooses the reset vector for it, which the spec leaves unspecified: the model's choice, log entry 3.
Rests on the spec's own decisions D19 (R115, R124), D32 (R124), D42 (R111) and its own inferences [derived] R145. -/
def Obligations.InvariantAtReset : Prop := State.reset.Inv ∧ ∀ hivecs, (State.powerOn hivecs).Inv

/-- Every step keeps the invariant: memory in canonical form, a legal mode, an aligned PC, the control register's
fixed bits, at most one pending exception, clear transient flags; and no step changes a parameter (R107, R111, R123,
R140, R900).
Rests on the spec's own decisions D1 (R123), D5 (R900), D9 (R123), D18 (R900), D42 (R111). -/
def Obligations.EveryStepKeepsInvariant : Prop :=
  ∀ s t : State, s.Inv → step s = .next t → t.Inv ∧ sameParameters s t

/-- No instruction executed in User mode leaves User mode, changes the interrupt masks, an SPSR, an exception mode's
register, the MMU's control, table base or domains, or makes the core wait: User mode is left only by an exception
(R651, R702, R932, R940, R941).
Rests on the spec's own decisions D10 (R702, R940), D26 (R651, R940). -/
def Obligations.UserModeIsConfined : Prop :=
  ∀ (i : Instr) (s t : State), psrM s.cpsr = 0b10000#5 → exec i s = .next t → samePrivileged s t
end

