-- ==== Sys2Proof/Laws/Act.lean ====
section
/-! SUPPORT. How a rule's pseudocode runs: one equation for each primitive of Machine/Ops.lean. -/

namespace Sys2Proof.Machine

variable {α β : Type}

theorem act_bind (m : Act α) (f : α → Act β) (s : State) :
    (m >>= f) s = match m s with | .ok (a, t) => f a t | .error e => .error e := by
  show (Except.bind (m s) fun p => f p.1 p.2) = _
  cases m s <;> rfl

@[simp] theorem act_bind_ok {m : Act α} {f : α → Act β} {s t : State} {a : α} (h : m s = .ok (a, t)) :
    (m >>= f) s = f a t := by rw [act_bind, h]

@[simp] theorem act_bind_error {m : Act α} {f : α → Act β} {s : State} {e : Stop} (h : m s = .error e) :
    (m >>= f) s = .error e := by rw [act_bind, h]

@[simp] theorem act_pure (a : α) (s : State) : (pure a : Act α) s = .ok (a, s) := rfl
@[simp] theorem look_apply (f : State → α) (s : State) : look f s = .ok (f s, s) := rfl
@[simp] theorem change_apply (f : State → State) (s : State) : change f s = .ok ((), f s) := rfl
@[simp] theorem stopFatal_apply (f : Fault) (s : State) : (stopFatal f : Act α) s = .error (.fault f) := rfl
@[simp] theorem stopUnsupported_apply (w : UnsupportedReason) (s : State) :
    (stopUnsupported w : Act α) s = .error (.refused (.unsupported w)) := rfl
@[simp] theorem stopUnpredictable_apply (w : UnpredictableReason) (s : State) :
    (stopUnpredictable w : Act α) s = .error (.refused (.unpredictable w)) := rfl

theorem unpredictableIf_apply (b : Bool) (w : UnpredictableReason) (s : State) :
    unpredictableIf b w s = if b then .error (.refused (.unpredictable w)) else .ok ((), s) := rfl
@[simp] theorem unpredictableIf_false (w : UnpredictableReason) (s : State) :
    unpredictableIf false w s = .ok ((), s) := rfl
@[simp] theorem unpredictableIf_true (w : UnpredictableReason) (s : State) :
    unpredictableIf true w s = .error (.refused (.unpredictable w)) := rfl
@[simp] theorem shouldBe_true (s : State) : shouldBe true s = .ok ((), s) := rfl
@[simp] theorem shouldBe_false (s : State) :
    shouldBe false s = .error (.refused (.unpredictable .shouldBeField)) := rfl

theorem whenPassed_apply (c : Cond) (m : Act Unit) (s : State) :
    whenPassed c m s = if condPassed c s.cpsr then m s else .ok ((), s) := rfl
theorem whenPassed_passed {c : Cond} {s : State} (h : condPassed c s.cpsr = true) (m : Act Unit) :
    whenPassed c m s = m s := by simp [whenPassed_apply, h]
theorem whenPassed_failed {c : Cond} {s : State} (h : condPassed c s.cpsr = false) (m : Act Unit) :
    whenPassed c m s = .ok ((), s) := by simp [whenPassed_apply, h]

theorem raise_apply (k : ExcKind) (w : Reason) (s : State) :
    (raise k w : Act α) s
      = if s.pending = Pending.empty then .error (.raised (s.request k w))
        else .error (.fault .raiseWhileOutstanding) := rfl
theorem raise_empty {s : State} (h : s.pending = Pending.empty) (k : ExcKind) (w : Reason) :
    (raise k w : Act α) s = .error (.raised (s.request k w)) := by simp [raise_apply, h]

@[simp] theorem readReg_apply (n : RegNum) (s : State) : readReg n s = .ok (s.reg n, s) := rfl
@[simp] theorem writeReg_apply (n : RegNum) (v : Word) (s : State) :
    writeReg n v s = .ok ((), s.setReg n v) := rfl
@[simp] theorem setCpsrFlags_apply (f : Word → Word) (s : State) :
    setCpsrFlags f s = .ok ((), { s with cpsr := f s.cpsr }) := rfl
@[simp] theorem branchWritePC_apply (v : Word) (s : State) : branchWritePC v s = .ok ((), s.jump v) := rfl

theorem writeCpsr_apply (v : Word) (s : State) :
    writeCpsr v s
      = if (Mode.ofBits (psrM v)).isSome then .ok ((), { s with cpsr := v })
        else .error (.refused (.unsupported .malformedMode)) := by
  unfold writeCpsr
  cases Mode.ofBits (psrM v) <;> rfl

theorem currentBank_some {s : State} {b : Bank} (h : s.mode.bank = some b) : currentBank s = .ok (b, s) := by
  simp [currentBank, h]
theorem currentBank_none {s : State} (h : s.mode.bank = none) : currentBank s = .error (.fault .spsrAccess) := by
  simp [currentBank, h]

theorem bxWritePC_apply (v : Word) (s : State) :
    bxWritePC v s
      = if v.getLsbD 0 then .ok ((), { s with cpsr := withT s.cpsr true }.jump (v &&& 0xFFFFFFFE#32))
        else if v.getLsbD 1 then .error (.refused (.unpredictable .bxToArm))
        else .ok ((), { s with cpsr := withT s.cpsr false }.jump v) := rfl

theorem aluWritePC_apply (v : Word) (s : State) :
    aluWritePC v s
      = if psrT s.cpsr then .ok ((), s.jump (v &&& 0xFFFFFFFE#32))
        else if v.extractLsb' 0 2 = 0b00#2 then .ok ((), s.jump v)
        else .error (.refused (.unpredictable .armPcWrite)) := rfl

/-- The return from an exception: the saved status of the current bank, then the PC in its instruction set. -/
theorem returnFromException_apply {s : State} {b : Bank} (h : s.mode.bank = some b)
    (hm : (Mode.ofBits (psrM (s.spsr.get b))).isSome = true) (v : Word) :
    returnFromException v s = aluWritePC v { s with cpsr := s.spsr.get b } := by
  have hr : restoreCpsr s = .ok ((), { s with cpsr := s.spsr.get b }) := by
    unfold restoreCpsr
    rw [act_bind_ok (currentBank_some h), act_bind_ok (look_apply _ _), writeCpsr_apply, if_pos hm]
  unfold returnFromException
  rw [act_bind_ok hr]

theorem returnFromException_user {s : State} (h : s.mode.bank = none) (v : Word) :
    returnFromException v s = .error (.fault .spsrAccess) := by
  unfold returnFromException restoreCpsr
  rw [act_bind_error (act_bind_error (currentBank_none h))]

/-! ## Outcomes -/

/-- How a pseudocode's end is an outcome. -/
def outcomeOf : Except Stop (Unit × State) → Host.Outcome State Fault Refusal
  | .ok (_, s) => .next s
  | .error (.raised s) => .next s
  | .error (.fault f) => .fault f
  | .error (.refused r) => .refused r

theorem runAct_outcomeOf (m : Act Unit) (s : State) : runAct m s = outcomeOf (m s) := by
  unfold runAct outcomeOf
  rcases m s with (_ | _ | _) | ⟨⟨⟩, _⟩ <;> rfl

@[simp] theorem outcomeOf_ok (u : Unit) (s : State) : outcomeOf (.ok (u, s)) = .next s := rfl
@[simp] theorem outcomeOf_raised (s : State) : outcomeOf (.error (.raised s)) = .next s := rfl
@[simp] theorem outcomeOf_fault (f : Fault) : outcomeOf (.error (.fault f)) = .fault f := rfl
@[simp] theorem outcomeOf_refused (r : Refusal) : outcomeOf (.error (.refused r)) = .refused r := rfl

@[simp] theorem runAct_ok {m : Act Unit} {s t : State} {u : Unit} (h : m s = .ok (u, t)) : runAct m s = .next t := by
  simp [runAct, h]
@[simp] theorem runAct_raised {m : Act Unit} {s t : State} (h : m s = .error (.raised t)) : runAct m s = .next t := by
  simp [runAct, h]
@[simp] theorem runAct_fault {m : Act Unit} {s : State} {f : Fault} (h : m s = .error (.fault f)) :
    runAct m s = .fault f := by simp [runAct, h]
@[simp] theorem runAct_refused {m : Act Unit} {s : State} {r : Refusal} (h : m s = .error (.refused r)) :
    runAct m s = .refused r := by simp [runAct, h]

/-- Everything a pseudocode that answers a next state can have done: run to its end, or raised. -/
theorem runAct_next {m : Act Unit} {s t : State} :
    runAct m s = .next t ↔ m s = .ok ((), t) ∨ m s = .error (.raised t) := by
  unfold runAct
  rcases m s with (_ | _ | _) | ⟨⟨⟩, _⟩ <;> simp

end Sys2Proof.Machine
end

