-- ==== Sys2Proof/Laws/State.lean ====
section
/-! SUPPORT. What each update of the state leaves alone, one lemma per field, and what it writes. -/

namespace Sys2Proof.Machine

variable (s : State)

@[simp] theorem State.setReg_pc (n : RegNum) (v : Word) : (s.setReg n v).pc = s.pc := by unfold State.setReg; split <;> rfl
@[simp] theorem State.setReg_cpsr (n : RegNum) (v : Word) : (s.setReg n v).cpsr = s.cpsr := by unfold State.setReg; split <;> rfl
@[simp] theorem State.setReg_spsr (n : RegNum) (v : Word) : (s.setReg n v).spsr = s.spsr := by unfold State.setReg; split <;> rfl
@[simp] theorem State.setReg_control (n : RegNum) (v : Word) : (s.setReg n v).control = s.control := by unfold State.setReg; split <;> rfl
@[simp] theorem State.setReg_ttb (n : RegNum) (v : Word) : (s.setReg n v).ttb = s.ttb := by unfold State.setReg; split <;> rfl
@[simp] theorem State.setReg_dacr (n : RegNum) (v : Word) : (s.setReg n v).dacr = s.dacr := by unfold State.setReg; split <;> rfl
@[simp] theorem State.setReg_fsr (n : RegNum) (v : Word) : (s.setReg n v).fsr = s.fsr := by unfold State.setReg; split <;> rfl
@[simp] theorem State.setReg_far (n : RegNum) (v : Word) : (s.setReg n v).far = s.far := by unfold State.setReg; split <;> rfl
@[simp] theorem State.setReg_midr (n : RegNum) (v : Word) : (s.setReg n v).midr = s.midr := by unfold State.setReg; split <;> rfl
@[simp] theorem State.setReg_ctr (n : RegNum) (v : Word) : (s.setReg n v).ctr = s.ctr := by unfold State.setReg; split <;> rfl
@[simp] theorem State.setReg_pending (n : RegNum) (v : Word) : (s.setReg n v).pending = s.pending := by unfold State.setReg; split <;> rfl
@[simp] theorem State.setReg_faultFlag (n : RegNum) (v : Word) : (s.setReg n v).faultFlag = s.faultFlag := by unfold State.setReg; split <;> rfl
@[simp] theorem State.setReg_waiting (n : RegNum) (v : Word) : (s.setReg n v).waiting = s.waiting := by unfold State.setReg; split <;> rfl
@[simp] theorem State.setReg_jumped (n : RegNum) (v : Word) : (s.setReg n v).jumped = s.jumped := by unfold State.setReg; split <;> rfl
@[simp] theorem State.setReg_mem (n : RegNum) (v : Word) : (s.setReg n v).mem = s.mem := by unfold State.setReg; split <;> rfl
@[simp] theorem State.setReg_bus (n : RegNum) (v : Word) : (s.setReg n v).bus = s.bus := by unfold State.setReg; split <;> rfl
@[simp] theorem State.setReg_lines (n : RegNum) (v : Word) : (s.setReg n v).lines = s.lines := by unfold State.setReg; split <;> rfl
@[simp] theorem State.setReg_irqLrOffset (n : RegNum) (v : Word) : (s.setReg n v).irqLrOffset = s.irqLrOffset := by unfold State.setReg; split <;> rfl
@[simp] theorem State.setReg_absentCp (n : RegNum) (v : Word) : (s.setReg n v).absentCp = s.absentCp := by unfold State.setReg; split <;> rfl
@[simp] theorem State.setReg_draws (n : RegNum) (v : Word) : (s.setReg n v).draws = s.draws := by unfold State.setReg; split <;> rfl

@[simp] theorem State.setUserReg_pc (n : RegNum) (v : Word) : (s.setUserReg n v).pc = s.pc := by unfold State.setUserReg; split <;> rfl
@[simp] theorem State.setUserReg_cpsr (n : RegNum) (v : Word) : (s.setUserReg n v).cpsr = s.cpsr := by unfold State.setUserReg; split <;> rfl
@[simp] theorem State.setUserReg_spsr (n : RegNum) (v : Word) : (s.setUserReg n v).spsr = s.spsr := by unfold State.setUserReg; split <;> rfl
@[simp] theorem State.setUserReg_control (n : RegNum) (v : Word) : (s.setUserReg n v).control = s.control := by unfold State.setUserReg; split <;> rfl
@[simp] theorem State.setUserReg_ttb (n : RegNum) (v : Word) : (s.setUserReg n v).ttb = s.ttb := by unfold State.setUserReg; split <;> rfl
@[simp] theorem State.setUserReg_dacr (n : RegNum) (v : Word) : (s.setUserReg n v).dacr = s.dacr := by unfold State.setUserReg; split <;> rfl
@[simp] theorem State.setUserReg_fsr (n : RegNum) (v : Word) : (s.setUserReg n v).fsr = s.fsr := by unfold State.setUserReg; split <;> rfl
@[simp] theorem State.setUserReg_far (n : RegNum) (v : Word) : (s.setUserReg n v).far = s.far := by unfold State.setUserReg; split <;> rfl
@[simp] theorem State.setUserReg_midr (n : RegNum) (v : Word) : (s.setUserReg n v).midr = s.midr := by unfold State.setUserReg; split <;> rfl
@[simp] theorem State.setUserReg_ctr (n : RegNum) (v : Word) : (s.setUserReg n v).ctr = s.ctr := by unfold State.setUserReg; split <;> rfl
@[simp] theorem State.setUserReg_pending (n : RegNum) (v : Word) : (s.setUserReg n v).pending = s.pending := by unfold State.setUserReg; split <;> rfl
@[simp] theorem State.setUserReg_faultFlag (n : RegNum) (v : Word) : (s.setUserReg n v).faultFlag = s.faultFlag := by unfold State.setUserReg; split <;> rfl
@[simp] theorem State.setUserReg_waiting (n : RegNum) (v : Word) : (s.setUserReg n v).waiting = s.waiting := by unfold State.setUserReg; split <;> rfl
@[simp] theorem State.setUserReg_jumped (n : RegNum) (v : Word) : (s.setUserReg n v).jumped = s.jumped := by unfold State.setUserReg; split <;> rfl
@[simp] theorem State.setUserReg_mem (n : RegNum) (v : Word) : (s.setUserReg n v).mem = s.mem := by unfold State.setUserReg; split <;> rfl
@[simp] theorem State.setUserReg_bus (n : RegNum) (v : Word) : (s.setUserReg n v).bus = s.bus := by unfold State.setUserReg; split <;> rfl
@[simp] theorem State.setUserReg_lines (n : RegNum) (v : Word) : (s.setUserReg n v).lines = s.lines := by unfold State.setUserReg; split <;> rfl
@[simp] theorem State.setUserReg_irqLrOffset (n : RegNum) (v : Word) : (s.setUserReg n v).irqLrOffset = s.irqLrOffset := by unfold State.setUserReg; split <;> rfl
@[simp] theorem State.setUserReg_absentCp (n : RegNum) (v : Word) : (s.setUserReg n v).absentCp = s.absentCp := by unfold State.setUserReg; split <;> rfl
@[simp] theorem State.setUserReg_draws (n : RegNum) (v : Word) : (s.setUserReg n v).draws = s.draws := by unfold State.setUserReg; split <;> rfl

@[simp] theorem State.request_regs (k : ExcKind) (w : Reason) : (s.request k w).regs = s.regs := rfl
@[simp] theorem State.request_pc (k : ExcKind) (w : Reason) : (s.request k w).pc = s.pc := rfl
@[simp] theorem State.request_cpsr (k : ExcKind) (w : Reason) : (s.request k w).cpsr = s.cpsr := rfl
@[simp] theorem State.request_spsr (k : ExcKind) (w : Reason) : (s.request k w).spsr = s.spsr := rfl
@[simp] theorem State.request_control (k : ExcKind) (w : Reason) : (s.request k w).control = s.control := rfl
@[simp] theorem State.request_ttb (k : ExcKind) (w : Reason) : (s.request k w).ttb = s.ttb := rfl
@[simp] theorem State.request_dacr (k : ExcKind) (w : Reason) : (s.request k w).dacr = s.dacr := rfl
@[simp] theorem State.request_fsr (k : ExcKind) (w : Reason) : (s.request k w).fsr = s.fsr := rfl
@[simp] theorem State.request_far (k : ExcKind) (w : Reason) : (s.request k w).far = s.far := rfl
@[simp] theorem State.request_midr (k : ExcKind) (w : Reason) : (s.request k w).midr = s.midr := rfl
@[simp] theorem State.request_ctr (k : ExcKind) (w : Reason) : (s.request k w).ctr = s.ctr := rfl
@[simp] theorem State.request_faultFlag (k : ExcKind) (w : Reason) : (s.request k w).faultFlag = s.faultFlag := rfl
@[simp] theorem State.request_waiting (k : ExcKind) (w : Reason) : (s.request k w).waiting = s.waiting := rfl
@[simp] theorem State.request_jumped (k : ExcKind) (w : Reason) : (s.request k w).jumped = s.jumped := rfl
@[simp] theorem State.request_mem (k : ExcKind) (w : Reason) : (s.request k w).mem = s.mem := rfl
@[simp] theorem State.request_bus (k : ExcKind) (w : Reason) : (s.request k w).bus = s.bus := rfl
@[simp] theorem State.request_lines (k : ExcKind) (w : Reason) : (s.request k w).lines = s.lines := rfl
@[simp] theorem State.request_irqLrOffset (k : ExcKind) (w : Reason) : (s.request k w).irqLrOffset = s.irqLrOffset := rfl
@[simp] theorem State.request_absentCp (k : ExcKind) (w : Reason) : (s.request k w).absentCp = s.absentCp := rfl
@[simp] theorem State.request_draws (k : ExcKind) (w : Reason) : (s.request k w).draws = s.draws := rfl

@[simp] theorem State.jump_regs (v : Word) : (s.jump v).regs = s.regs := rfl
@[simp] theorem State.jump_cpsr (v : Word) : (s.jump v).cpsr = s.cpsr := rfl
@[simp] theorem State.jump_spsr (v : Word) : (s.jump v).spsr = s.spsr := rfl
@[simp] theorem State.jump_control (v : Word) : (s.jump v).control = s.control := rfl
@[simp] theorem State.jump_ttb (v : Word) : (s.jump v).ttb = s.ttb := rfl
@[simp] theorem State.jump_dacr (v : Word) : (s.jump v).dacr = s.dacr := rfl
@[simp] theorem State.jump_fsr (v : Word) : (s.jump v).fsr = s.fsr := rfl
@[simp] theorem State.jump_far (v : Word) : (s.jump v).far = s.far := rfl
@[simp] theorem State.jump_midr (v : Word) : (s.jump v).midr = s.midr := rfl
@[simp] theorem State.jump_ctr (v : Word) : (s.jump v).ctr = s.ctr := rfl
@[simp] theorem State.jump_pending (v : Word) : (s.jump v).pending = s.pending := rfl
@[simp] theorem State.jump_faultFlag (v : Word) : (s.jump v).faultFlag = s.faultFlag := rfl
@[simp] theorem State.jump_waiting (v : Word) : (s.jump v).waiting = s.waiting := rfl
@[simp] theorem State.jump_mem (v : Word) : (s.jump v).mem = s.mem := rfl
@[simp] theorem State.jump_bus (v : Word) : (s.jump v).bus = s.bus := rfl
@[simp] theorem State.jump_lines (v : Word) : (s.jump v).lines = s.lines := rfl
@[simp] theorem State.jump_irqLrOffset (v : Word) : (s.jump v).irqLrOffset = s.irqLrOffset := rfl
@[simp] theorem State.jump_absentCp (v : Word) : (s.jump v).absentCp = s.absentCp := rfl
@[simp] theorem State.jump_draws (v : Word) : (s.jump v).draws = s.draws := rfl

@[simp] theorem State.enterException_control (k : ExcKind) : (s.enterException k).control = s.control := rfl
@[simp] theorem State.enterException_ttb (k : ExcKind) : (s.enterException k).ttb = s.ttb := rfl
@[simp] theorem State.enterException_dacr (k : ExcKind) : (s.enterException k).dacr = s.dacr := rfl
@[simp] theorem State.enterException_fsr (k : ExcKind) : (s.enterException k).fsr = s.fsr := rfl
@[simp] theorem State.enterException_far (k : ExcKind) : (s.enterException k).far = s.far := rfl
@[simp] theorem State.enterException_midr (k : ExcKind) : (s.enterException k).midr = s.midr := rfl
@[simp] theorem State.enterException_ctr (k : ExcKind) : (s.enterException k).ctr = s.ctr := rfl
@[simp] theorem State.enterException_pending (k : ExcKind) : (s.enterException k).pending = s.pending := rfl
@[simp] theorem State.enterException_faultFlag (k : ExcKind) : (s.enterException k).faultFlag = s.faultFlag := rfl
@[simp] theorem State.enterException_waiting (k : ExcKind) : (s.enterException k).waiting = s.waiting := rfl
@[simp] theorem State.enterException_jumped (k : ExcKind) : (s.enterException k).jumped = s.jumped := rfl
@[simp] theorem State.enterException_mem (k : ExcKind) : (s.enterException k).mem = s.mem := rfl
@[simp] theorem State.enterException_bus (k : ExcKind) : (s.enterException k).bus = s.bus := rfl
@[simp] theorem State.enterException_lines (k : ExcKind) : (s.enterException k).lines = s.lines := rfl
@[simp] theorem State.enterException_irqLrOffset (k : ExcKind) : (s.enterException k).irqLrOffset = s.irqLrOffset := rfl
@[simp] theorem State.enterException_absentCp (k : ExcKind) : (s.enterException k).absentCp = s.absentCp := rfl
@[simp] theorem State.enterException_draws (k : ExcKind) : (s.enterException k).draws = s.draws := rfl

@[simp] theorem State.recordFault_regs (va : Word) (st : FaultStatus) (d : Option (BitVec 4)) : (s.recordFault va st d).regs = s.regs := by cases d <;> rfl
@[simp] theorem State.recordFault_pc (va : Word) (st : FaultStatus) (d : Option (BitVec 4)) : (s.recordFault va st d).pc = s.pc := by cases d <;> rfl
@[simp] theorem State.recordFault_cpsr (va : Word) (st : FaultStatus) (d : Option (BitVec 4)) : (s.recordFault va st d).cpsr = s.cpsr := by cases d <;> rfl
@[simp] theorem State.recordFault_spsr (va : Word) (st : FaultStatus) (d : Option (BitVec 4)) : (s.recordFault va st d).spsr = s.spsr := by cases d <;> rfl
@[simp] theorem State.recordFault_control (va : Word) (st : FaultStatus) (d : Option (BitVec 4)) : (s.recordFault va st d).control = s.control := by cases d <;> rfl
@[simp] theorem State.recordFault_ttb (va : Word) (st : FaultStatus) (d : Option (BitVec 4)) : (s.recordFault va st d).ttb = s.ttb := by cases d <;> rfl
@[simp] theorem State.recordFault_dacr (va : Word) (st : FaultStatus) (d : Option (BitVec 4)) : (s.recordFault va st d).dacr = s.dacr := by cases d <;> rfl
@[simp] theorem State.recordFault_midr (va : Word) (st : FaultStatus) (d : Option (BitVec 4)) : (s.recordFault va st d).midr = s.midr := by cases d <;> rfl
@[simp] theorem State.recordFault_ctr (va : Word) (st : FaultStatus) (d : Option (BitVec 4)) : (s.recordFault va st d).ctr = s.ctr := by cases d <;> rfl
@[simp] theorem State.recordFault_pending (va : Word) (st : FaultStatus) (d : Option (BitVec 4)) : (s.recordFault va st d).pending = s.pending := by cases d <;> rfl
@[simp] theorem State.recordFault_waiting (va : Word) (st : FaultStatus) (d : Option (BitVec 4)) : (s.recordFault va st d).waiting = s.waiting := by cases d <;> rfl
@[simp] theorem State.recordFault_jumped (va : Word) (st : FaultStatus) (d : Option (BitVec 4)) : (s.recordFault va st d).jumped = s.jumped := by cases d <;> rfl
@[simp] theorem State.recordFault_mem (va : Word) (st : FaultStatus) (d : Option (BitVec 4)) : (s.recordFault va st d).mem = s.mem := by cases d <;> rfl
@[simp] theorem State.recordFault_bus (va : Word) (st : FaultStatus) (d : Option (BitVec 4)) : (s.recordFault va st d).bus = s.bus := by cases d <;> rfl
@[simp] theorem State.recordFault_lines (va : Word) (st : FaultStatus) (d : Option (BitVec 4)) : (s.recordFault va st d).lines = s.lines := by cases d <;> rfl
@[simp] theorem State.recordFault_irqLrOffset (va : Word) (st : FaultStatus) (d : Option (BitVec 4)) : (s.recordFault va st d).irqLrOffset = s.irqLrOffset := by cases d <;> rfl
@[simp] theorem State.recordFault_absentCp (va : Word) (st : FaultStatus) (d : Option (BitVec 4)) : (s.recordFault va st d).absentCp = s.absentCp := by cases d <;> rfl

@[simp] theorem State.store_regs (n : AccSize) (pa v : Word) : (s.store n pa v).regs = s.regs := rfl
@[simp] theorem State.store_pc (n : AccSize) (pa v : Word) : (s.store n pa v).pc = s.pc := rfl
@[simp] theorem State.store_cpsr (n : AccSize) (pa v : Word) : (s.store n pa v).cpsr = s.cpsr := rfl
@[simp] theorem State.store_spsr (n : AccSize) (pa v : Word) : (s.store n pa v).spsr = s.spsr := rfl
@[simp] theorem State.store_control (n : AccSize) (pa v : Word) : (s.store n pa v).control = s.control := rfl
@[simp] theorem State.store_ttb (n : AccSize) (pa v : Word) : (s.store n pa v).ttb = s.ttb := rfl
@[simp] theorem State.store_dacr (n : AccSize) (pa v : Word) : (s.store n pa v).dacr = s.dacr := rfl
@[simp] theorem State.store_fsr (n : AccSize) (pa v : Word) : (s.store n pa v).fsr = s.fsr := rfl
@[simp] theorem State.store_far (n : AccSize) (pa v : Word) : (s.store n pa v).far = s.far := rfl
@[simp] theorem State.store_midr (n : AccSize) (pa v : Word) : (s.store n pa v).midr = s.midr := rfl
@[simp] theorem State.store_ctr (n : AccSize) (pa v : Word) : (s.store n pa v).ctr = s.ctr := rfl
@[simp] theorem State.store_pending (n : AccSize) (pa v : Word) : (s.store n pa v).pending = s.pending := rfl
@[simp] theorem State.store_faultFlag (n : AccSize) (pa v : Word) : (s.store n pa v).faultFlag = s.faultFlag := rfl
@[simp] theorem State.store_waiting (n : AccSize) (pa v : Word) : (s.store n pa v).waiting = s.waiting := rfl
@[simp] theorem State.store_jumped (n : AccSize) (pa v : Word) : (s.store n pa v).jumped = s.jumped := rfl
@[simp] theorem State.store_bus (n : AccSize) (pa v : Word) : (s.store n pa v).bus = s.bus := rfl
@[simp] theorem State.store_lines (n : AccSize) (pa v : Word) : (s.store n pa v).lines = s.lines := rfl
@[simp] theorem State.store_irqLrOffset (n : AccSize) (pa v : Word) : (s.store n pa v).irqLrOffset = s.irqLrOffset := rfl
@[simp] theorem State.store_absentCp (n : AccSize) (pa v : Word) : (s.store n pa v).absentCp = s.absentCp := rfl
@[simp] theorem State.store_draws (n : AccSize) (pa v : Word) : (s.store n pa v).draws = s.draws := rfl

@[simp] theorem State.advance_regs (len : Word) : (s.advance len).regs = s.regs := by unfold State.advance; split <;> rfl
@[simp] theorem State.advance_cpsr (len : Word) : (s.advance len).cpsr = s.cpsr := by unfold State.advance; split <;> rfl
@[simp] theorem State.advance_spsr (len : Word) : (s.advance len).spsr = s.spsr := by unfold State.advance; split <;> rfl
@[simp] theorem State.advance_control (len : Word) : (s.advance len).control = s.control := by unfold State.advance; split <;> rfl
@[simp] theorem State.advance_ttb (len : Word) : (s.advance len).ttb = s.ttb := by unfold State.advance; split <;> rfl
@[simp] theorem State.advance_dacr (len : Word) : (s.advance len).dacr = s.dacr := by unfold State.advance; split <;> rfl
@[simp] theorem State.advance_fsr (len : Word) : (s.advance len).fsr = s.fsr := by unfold State.advance; split <;> rfl
@[simp] theorem State.advance_far (len : Word) : (s.advance len).far = s.far := by unfold State.advance; split <;> rfl
@[simp] theorem State.advance_midr (len : Word) : (s.advance len).midr = s.midr := by unfold State.advance; split <;> rfl
@[simp] theorem State.advance_ctr (len : Word) : (s.advance len).ctr = s.ctr := by unfold State.advance; split <;> rfl
@[simp] theorem State.advance_pending (len : Word) : (s.advance len).pending = s.pending := by unfold State.advance; split <;> rfl
@[simp] theorem State.advance_faultFlag (len : Word) : (s.advance len).faultFlag = s.faultFlag := by unfold State.advance; split <;> rfl
@[simp] theorem State.advance_waiting (len : Word) : (s.advance len).waiting = s.waiting := by unfold State.advance; split <;> rfl
@[simp] theorem State.advance_jumped (len : Word) : (s.advance len).jumped = s.jumped := by unfold State.advance; split <;> rfl
@[simp] theorem State.advance_mem (len : Word) : (s.advance len).mem = s.mem := by unfold State.advance; split <;> rfl
@[simp] theorem State.advance_bus (len : Word) : (s.advance len).bus = s.bus := by unfold State.advance; split <;> rfl
@[simp] theorem State.advance_lines (len : Word) : (s.advance len).lines = s.lines := by unfold State.advance; split <;> rfl
@[simp] theorem State.advance_irqLrOffset (len : Word) : (s.advance len).irqLrOffset = s.irqLrOffset := by unfold State.advance; split <;> rfl
@[simp] theorem State.advance_absentCp (len : Word) : (s.advance len).absentCp = s.absentCp := by unfold State.advance; split <;> rfl
@[simp] theorem State.advance_draws (len : Word) : (s.advance len).draws = s.draws := by unfold State.advance; split <;> rfl

@[simp] theorem State.endStep_regs : (s.endStep).regs = s.regs := rfl
@[simp] theorem State.endStep_pc : (s.endStep).pc = s.pc := rfl
@[simp] theorem State.endStep_cpsr : (s.endStep).cpsr = s.cpsr := rfl
@[simp] theorem State.endStep_spsr : (s.endStep).spsr = s.spsr := rfl
@[simp] theorem State.endStep_control : (s.endStep).control = s.control := rfl
@[simp] theorem State.endStep_ttb : (s.endStep).ttb = s.ttb := rfl
@[simp] theorem State.endStep_dacr : (s.endStep).dacr = s.dacr := rfl
@[simp] theorem State.endStep_fsr : (s.endStep).fsr = s.fsr := rfl
@[simp] theorem State.endStep_far : (s.endStep).far = s.far := rfl
@[simp] theorem State.endStep_midr : (s.endStep).midr = s.midr := rfl
@[simp] theorem State.endStep_ctr : (s.endStep).ctr = s.ctr := rfl
@[simp] theorem State.endStep_pending : (s.endStep).pending = s.pending := rfl
@[simp] theorem State.endStep_waiting : (s.endStep).waiting = s.waiting := rfl
@[simp] theorem State.endStep_mem : (s.endStep).mem = s.mem := rfl
@[simp] theorem State.endStep_bus : (s.endStep).bus = s.bus := rfl
@[simp] theorem State.endStep_lines : (s.endStep).lines = s.lines := rfl
@[simp] theorem State.endStep_irqLrOffset : (s.endStep).irqLrOffset = s.irqLrOffset := rfl
@[simp] theorem State.endStep_absentCp : (s.endStep).absentCp = s.absentCp := rfl
@[simp] theorem State.endStep_draws : (s.endStep).draws = s.draws := rfl

@[simp] theorem State.sampled_regs : (s.sampled).regs = s.regs := rfl
@[simp] theorem State.sampled_pc : (s.sampled).pc = s.pc := rfl
@[simp] theorem State.sampled_cpsr : (s.sampled).cpsr = s.cpsr := rfl
@[simp] theorem State.sampled_spsr : (s.sampled).spsr = s.spsr := rfl
@[simp] theorem State.sampled_control : (s.sampled).control = s.control := rfl
@[simp] theorem State.sampled_ttb : (s.sampled).ttb = s.ttb := rfl
@[simp] theorem State.sampled_dacr : (s.sampled).dacr = s.dacr := rfl
@[simp] theorem State.sampled_fsr : (s.sampled).fsr = s.fsr := rfl
@[simp] theorem State.sampled_far : (s.sampled).far = s.far := rfl
@[simp] theorem State.sampled_midr : (s.sampled).midr = s.midr := rfl
@[simp] theorem State.sampled_ctr : (s.sampled).ctr = s.ctr := rfl
@[simp] theorem State.sampled_pending : (s.sampled).pending = s.pending := rfl
@[simp] theorem State.sampled_faultFlag : (s.sampled).faultFlag = s.faultFlag := rfl
@[simp] theorem State.sampled_waiting : (s.sampled).waiting = s.waiting := rfl
@[simp] theorem State.sampled_jumped : (s.sampled).jumped = s.jumped := rfl
@[simp] theorem State.sampled_mem : (s.sampled).mem = s.mem := rfl
@[simp] theorem State.sampled_bus : (s.sampled).bus = s.bus := rfl
@[simp] theorem State.sampled_irqLrOffset : (s.sampled).irqLrOffset = s.irqLrOffset := rfl
@[simp] theorem State.sampled_absentCp : (s.sampled).absentCp = s.absentCp := rfl
@[simp] theorem State.sampled_draws : (s.sampled).draws = s.draws := rfl

@[simp] theorem State.dispatch_control : (s.dispatch).control = s.control := by unfold State.dispatch; split <;> rfl
@[simp] theorem State.dispatch_ttb : (s.dispatch).ttb = s.ttb := by unfold State.dispatch; split <;> rfl
@[simp] theorem State.dispatch_dacr : (s.dispatch).dacr = s.dacr := by unfold State.dispatch; split <;> rfl
@[simp] theorem State.dispatch_fsr : (s.dispatch).fsr = s.fsr := by unfold State.dispatch; split <;> rfl
@[simp] theorem State.dispatch_far : (s.dispatch).far = s.far := by unfold State.dispatch; split <;> rfl
@[simp] theorem State.dispatch_midr : (s.dispatch).midr = s.midr := by unfold State.dispatch; split <;> rfl
@[simp] theorem State.dispatch_ctr : (s.dispatch).ctr = s.ctr := by unfold State.dispatch; split <;> rfl
@[simp] theorem State.dispatch_faultFlag : (s.dispatch).faultFlag = s.faultFlag := by unfold State.dispatch; split <;> rfl
@[simp] theorem State.dispatch_waiting : (s.dispatch).waiting = s.waiting := by unfold State.dispatch; split <;> rfl
@[simp] theorem State.dispatch_jumped : (s.dispatch).jumped = s.jumped := by unfold State.dispatch; split <;> rfl
@[simp] theorem State.dispatch_mem : (s.dispatch).mem = s.mem := by unfold State.dispatch; split <;> rfl
@[simp] theorem State.dispatch_bus : (s.dispatch).bus = s.bus := by unfold State.dispatch; split <;> rfl
@[simp] theorem State.dispatch_lines : (s.dispatch).lines = s.lines := by unfold State.dispatch; split <;> rfl
@[simp] theorem State.dispatch_irqLrOffset : (s.dispatch).irqLrOffset = s.irqLrOffset := by unfold State.dispatch; split <;> rfl
@[simp] theorem State.dispatch_absentCp : (s.dispatch).absentCp = s.absentCp := by unfold State.dispatch; split <;> rfl
@[simp] theorem State.dispatch_draws : (s.dispatch).draws = s.draws := by unfold State.dispatch; split <;> rfl

@[simp] theorem State.request_pending (k : ExcKind) (w : Reason) :
    (s.request k w).pending = s.pending.set k (some w) := rfl
@[simp] theorem State.jump_pc (v : Word) : (s.jump v).pc = v := rfl
@[simp] theorem State.jump_jumped (v : Word) : (s.jump v).jumped = true := rfl
@[simp] theorem State.endStep_faultFlag : s.endStep.faultFlag = false := rfl
@[simp] theorem State.endStep_jumped : s.endStep.jumped = false := rfl
@[simp] theorem State.store_mem (n : AccSize) (pa v : Word) : (s.store n pa v).mem = s.mem.write n pa v := rfl
@[simp] theorem State.sampled_lines : s.sampled.lines = s.lines.tail := rfl
@[simp] theorem State.enterException_pc (k : ExcKind) :
    (s.enterException k).pc = s.vectorBase + k.vectorOffset := rfl
@[simp] theorem State.enterException_cpsr (k : ExcKind) : (s.enterException k).cpsr = entryCpsr k s.cpsr := rfl
@[simp] theorem State.enterException_spsr (k : ExcKind) :
    (s.enterException k).spsr = s.spsr.set k.bank s.cpsr := rfl
@[simp] theorem State.recordFault_far (va : Word) (st : FaultStatus) (d : Option (BitVec 4)) :
    (s.recordFault va st d).far = va := by cases d <;> rfl
@[simp] theorem State.recordFault_faultFlag (va : Word) (st : FaultStatus) (d : Option (BitVec 4)) :
    (s.recordFault va st d).faultFlag = true := by cases d <;> rfl

/-! ## What is computed from the parts -/

@[simp] theorem State.setReg_mode (n : RegNum) (v : Word) : (s.setReg n v).mode = s.mode := by simp [State.mode]
@[simp] theorem State.setReg_privileged (n : RegNum) (v : Word) : (s.setReg n v).privileged = s.privileged := by
  simp [State.privileged]
@[simp] theorem State.request_mode (k : ExcKind) (w : Reason) : (s.request k w).mode = s.mode := rfl
@[simp] theorem State.jump_mode (v : Word) : (s.jump v).mode = s.mode := rfl
@[simp] theorem State.store_mode (n : AccSize) (pa v : Word) : (s.store n pa v).mode = s.mode := rfl
@[simp] theorem State.store_privileged (n : AccSize) (pa v : Word) :
    (s.store n pa v).privileged = s.privileged := rfl
@[simp] theorem State.store_reg (n : AccSize) (pa v : Word) (r : RegNum) : (s.store n pa v).reg r = s.reg r := rfl
@[simp] theorem State.store_userReg (n : AccSize) (pa v : Word) (r : RegNum) :
    (s.store n pa v).userReg r = s.userReg r := rfl

end Sys2Proof.Machine
end

