-- ==== Sys2Proof/Laws/Flags.lean ====
section
/-! SUPPORT. The fields of a program status register after each of its writes (spec/10_state.md R111, R113), and the
adder (spec/40_arm_data_processing.md R405). -/

namespace Sys2Proof.Machine

/-- One bit replaced: that bit, and every other bit as before. -/
theorem getLsbD_setBit (w : Word) (i j : Nat) (b : Bool) (h : i < 32) :
    (setBit w i b).getLsbD j = if j = i then b else w.getLsbD j := by
  unfold setBit
  cases b <;> by_cases e : j = i
  · subst e; simp [h]
  · by_cases hj : j < 32
    · simp [e, hj]
    · simp [BitVec.getLsbD_of_ge _ _ (Nat.le_of_not_lt hj), e]
  · subst e; simp [h]
  · simp [e, Ne.symm e]

/-- The bits that a flag write never touches (R113). -/
theorem getLsbD_withNZCV (p : Word) (n z c v : Bool) (j : Nat) :
    (withNZCV p n z c v).getLsbD j
      = if j = 28 then v else if j = 29 then c else if j = 30 then z else if j = 31 then n else p.getLsbD j := by
  simp [withNZCV, withNZC, withNZ, getLsbD_setBit]

theorem getLsbD_withNZC (p : Word) (n z c : Bool) (j : Nat) :
    (withNZC p n z c).getLsbD j
      = if j = 29 then c else if j = 30 then z else if j = 31 then n else p.getLsbD j := by
  simp [withNZC, withNZ, getLsbD_setBit]

theorem getLsbD_withNZ (p : Word) (n z : Bool) (j : Nat) :
    (withNZ p n z).getLsbD j = if j = 30 then z else if j = 31 then n else p.getLsbD j := by
  simp [withNZ, getLsbD_setBit]

theorem getLsbD_withT (p : Word) (t : Bool) (j : Nat) :
    (withT p t).getLsbD j = if j = 5 then t else p.getLsbD j := by
  simp [withT, getLsbD_setBit]

theorem getLsbD_withM (p : Word) (m : Mode) (j : Nat) :
    (withM p m).getLsbD j = if j < 5 then m.bits.getLsbD j else p.getLsbD j := by
  unfold withM
  rw [BitVec.getLsbD_or, BitVec.getLsbD_and]
  by_cases h : j < 32
  · interval_cases j <;> simp
  · rw [BitVec.getLsbD_of_ge p j (by omega)]
    simp [show ¬ j < 5 by omega, BitVec.getLsbD_of_ge _ j (Nat.le_of_not_lt h)]

/-- Two words that agree on bits 0 to 4 have one mode field. -/
theorem psrM_congr {p q : Word} (h : ∀ j, j < 5 → p.getLsbD j = q.getLsbD j) : psrM p = psrM q := by
  apply BitVec.eq_of_getLsbD_eq
  intro i hi
  simp [psrM, hi, h i hi]

@[simp] theorem psrM_withNZCV (p : Word) (n z c v : Bool) : psrM (withNZCV p n z c v) = psrM p :=
  psrM_congr fun j hj => by rw [getLsbD_withNZCV]; simp [show j ≠ 28 by omega, show j ≠ 29 by omega, show j ≠ 30 by omega, show j ≠ 31 by omega]
@[simp] theorem psrM_withNZC (p : Word) (n z c : Bool) : psrM (withNZC p n z c) = psrM p :=
  psrM_congr fun j hj => by rw [getLsbD_withNZC]; simp [show j ≠ 29 by omega, show j ≠ 30 by omega, show j ≠ 31 by omega]
@[simp] theorem psrM_withNZ (p : Word) (n z : Bool) : psrM (withNZ p n z) = psrM p :=
  psrM_congr fun j hj => by rw [getLsbD_withNZ]; simp [show j ≠ 30 by omega, show j ≠ 31 by omega]
@[simp] theorem psrM_withT (p : Word) (t : Bool) : psrM (withT p t) = psrM p :=
  psrM_congr fun j hj => by rw [getLsbD_withT]; simp [show j ≠ 5 by omega]
@[simp] theorem psrM_setBit (p : Word) (i : Nat) (b : Bool) (h : 5 ≤ i) (h' : i < 32) : psrM (setBit p i b) = psrM p :=
  psrM_congr fun j hj => by rw [getLsbD_setBit _ _ _ _ h']; simp [show j ≠ i by omega]
@[simp] theorem psrM_withM (p : Word) (m : Mode) : psrM (withM p m) = m.bits := by
  apply BitVec.eq_of_getLsbD_eq
  intro i hi
  simp [psrM, hi, getLsbD_withM]

@[simp] theorem psrT_withNZCV (p : Word) (n z c v : Bool) : psrT (withNZCV p n z c v) = psrT p := by
  simp only [psrT, getLsbD_withNZCV, Nat.reduceEqDiff, if_false]
@[simp] theorem psrT_withNZC (p : Word) (n z c : Bool) : psrT (withNZC p n z c) = psrT p := by
  simp only [psrT, getLsbD_withNZC, Nat.reduceEqDiff, if_false]
@[simp] theorem psrT_withNZ (p : Word) (n z : Bool) : psrT (withNZ p n z) = psrT p := by
  simp only [psrT, getLsbD_withNZ, Nat.reduceEqDiff, if_false]
@[simp] theorem psrT_withT (p : Word) (t : Bool) : psrT (withT p t) = t := by
  simp only [psrT, getLsbD_withT, if_true]
@[simp] theorem psrI_withNZCV (p : Word) (n z c v : Bool) : psrI (withNZCV p n z c v) = psrI p := by
  simp only [psrI, getLsbD_withNZCV, Nat.reduceEqDiff, if_false]
@[simp] theorem psrI_withNZC (p : Word) (n z c : Bool) : psrI (withNZC p n z c) = psrI p := by
  simp only [psrI, getLsbD_withNZC, Nat.reduceEqDiff, if_false]
@[simp] theorem psrI_withNZ (p : Word) (n z : Bool) : psrI (withNZ p n z) = psrI p := by
  simp only [psrI, getLsbD_withNZ, Nat.reduceEqDiff, if_false]
@[simp] theorem psrI_withT (p : Word) (t : Bool) : psrI (withT p t) = psrI p := by
  simp only [psrI, getLsbD_withT, Nat.reduceEqDiff, if_false]
@[simp] theorem psrF_withNZCV (p : Word) (n z c v : Bool) : psrF (withNZCV p n z c v) = psrF p := by
  simp only [psrF, getLsbD_withNZCV, Nat.reduceEqDiff, if_false]
@[simp] theorem psrF_withNZC (p : Word) (n z c : Bool) : psrF (withNZC p n z c) = psrF p := by
  simp only [psrF, getLsbD_withNZC, Nat.reduceEqDiff, if_false]
@[simp] theorem psrF_withNZ (p : Word) (n z : Bool) : psrF (withNZ p n z) = psrF p := by
  simp only [psrF, getLsbD_withNZ, Nat.reduceEqDiff, if_false]
@[simp] theorem psrF_withT (p : Word) (t : Bool) : psrF (withT p t) = psrF p := by
  simp only [psrF, getLsbD_withT, Nat.reduceEqDiff, if_false]

@[simp] theorem Mode.ofBits_bits (m : Mode) : Mode.ofBits m.bits = some m := by cases m <;> rfl

theorem Mode.bits_of_ofBits {b : BitVec 5} {m : Mode} (h : Mode.ofBits b = some m) : m.bits = b := by
  revert b m
  decide

theorem State.mode_of_bits {s : State} {m : Mode} (h : psrM s.cpsr = m.bits) : s.mode = m := by
  simp [State.mode, h]

/-- A write that keeps the mode field keeps the mode and the privilege. -/
theorem State.mode_congr {s t : State} (h : psrM t.cpsr = psrM s.cpsr) :
    t.mode = s.mode ∧ t.privileged = s.privileged := by
  simp [State.mode, State.privileged, h]

theorem addWithCarry_result_toNat (a b : Word) (c : Bool) :
    (addWithCarry a b c).result.toNat = (a.toNat + b.toNat + c.toNat) % 2 ^ 32 := by
  simp [addWithCarry]

end Sys2Proof.Machine
end

