-- ==== Sys2Proof/Laws/Memory.lean ====
section
/-! SUPPORT. Physical memory (spec/20_memory.md R201, R202): read after write, what a write leaves alone, and the
canonical form, which every memory operation keeps. -/

namespace Sys2Proof.Machine

/-! ## The canonical form -/

theorem Memory.wfFrom_mono {lo hi : Nat} {m : Memory} (h : lo ≤ hi) (hm : Memory.wfFrom hi m = true) :
    Memory.wfFrom lo m = true := by
  cases m with
  | nil => rfl
  | cons c rest =>
    simp only [Memory.wfFrom, Bool.and_eq_true, decide_eq_true_eq] at hm ⊢
    exact ⟨⟨⟨by omega, hm.1.1.2⟩, hm.1.2⟩, hm.2⟩

/-- Below its lowest address a canonical memory lists nothing. -/
theorem Memory.readByte_below {m : Memory} {lo a : Nat} (hm : Memory.wfFrom lo m = true) (h : a < lo) :
    m.readByte a = Config.unlistedByte := by
  induction m generalizing lo with
  | nil => rfl
  | cons c rest ih =>
    obtain ⟨b, x⟩ := c
    simp only [Memory.wfFrom, Bool.and_eq_true, decide_eq_true_eq] at hm
    simp only [Memory.readByte, show b ≠ a by omega, if_false]
    exact ih hm.2 (by omega)

theorem Memory.wfFrom_cons {m : Memory} {lo a : Nat} (v : Byte) (hm : Memory.wfFrom (a + 1) m = true) (h : lo ≤ a)
    (ha : a < 2 ^ 32) : Memory.wfFrom lo (Memory.cons a v m) = true := by
  unfold Memory.cons
  split
  · exact Memory.wfFrom_mono (by omega) hm
  · next hv => simp only [Memory.wfFrom, hm, h, ha, decide_true, bne_iff_ne.2 hv, Bool.and_self]

theorem Memory.wfFrom_writeByte {m : Memory} {lo a : Nat} (v : Byte) (hm : Memory.wfFrom lo m = true) (h : lo ≤ a)
    (ha : a < 2 ^ 32) : Memory.wfFrom lo (m.writeByte a v) = true := by
  induction m generalizing lo with
  | nil => exact Memory.wfFrom_cons v rfl h ha
  | cons c rest ih =>
    obtain ⟨b, x⟩ := c
    have hc := hm
    simp only [Memory.wfFrom, Bool.and_eq_true, decide_eq_true_eq] at hm
    simp only [Memory.writeByte]
    split
    · next hab =>
      refine Memory.wfFrom_cons v ?_ h ha
      simp only [Memory.wfFrom, Bool.and_eq_true, decide_eq_true_eq]
      exact ⟨⟨⟨by omega, hm.1.1.2⟩, hm.1.2⟩, hm.2⟩
    · split
      · next hab => subst hab; exact Memory.wfFrom_cons v hm.2 h ha
      · simp only [Memory.wfFrom, Bool.and_eq_true, decide_eq_true_eq]
        exact ⟨hm.1, ih hm.2 (by omega)⟩

/-- Storing a byte at a physical address keeps the canonical form. -/
theorem Memory.wf_writeByte {m : Memory} {a : Nat} (v : Byte) (hm : m.wf = true) (ha : a < 2 ^ 32) :
    (m.writeByte a v).wf = true := Memory.wfFrom_writeByte v hm (Nat.zero_le _) ha

/-! ## Read after write -/

/-- A byte stored is the byte read; every other byte is as before. -/
theorem Memory.readByte_writeByte_from {m : Memory} {lo : Nat} (a b : Nat) (v : Byte)
    (hm : Memory.wfFrom lo m = true) :
    (m.writeByte a v).readByte b = if b = a then v else m.readByte b := by
  induction m generalizing lo with
  | nil =>
    by_cases hv : v = Config.unlistedByte
    · simp [Memory.writeByte, Memory.cons, Memory.readByte, hv]
    · by_cases e : a = b
      · simp [Memory.writeByte, Memory.cons, Memory.readByte, hv, e]
      · simp [Memory.writeByte, Memory.cons, Memory.readByte, hv, e, Ne.symm e]
  | cons c rest ih =>
    obtain ⟨d, x⟩ := c
    have hc := hm
    simp only [Memory.wfFrom, Bool.and_eq_true, decide_eq_true_eq] at hm
    simp only [Memory.writeByte]
    split
    · next hab =>
      have hread : Memory.readByte ((d, x) :: rest) a = Config.unlistedByte := by
        refine Memory.readByte_below (lo := a + 1) ?_ (by omega)
        simp only [Memory.wfFrom, Bool.and_eq_true, decide_eq_true_eq]
        exact ⟨⟨⟨by omega, hm.1.1.2⟩, hm.1.2⟩, hm.2⟩
      unfold Memory.cons
      split
      · next hv =>
        split
        · next e => subst e; rw [hread, hv]
        · rfl
      · rw [Memory.readByte]
        by_cases e : b = a
        · simp [e]
        · simp [e, Ne.symm e]
    · next hlt =>
      split
      · next had =>
        subst had
        have hread : Memory.readByte rest a = Config.unlistedByte := Memory.readByte_below hm.2 (by omega)
        unfold Memory.cons
        split
        · next hv =>
          split
          · next e => subst e; rw [hread, hv]
          · next e => simp [Memory.readByte, Ne.symm e]
        · by_cases e : b = a
          · simp [Memory.readByte, e]
          · simp [Memory.readByte, e, Ne.symm e]
      · next hne =>
        simp only [Memory.readByte, ih hm.2]
        by_cases e : d = b
        · subst e; simp [Ne.symm hne]
        · simp [e]

/-- A byte stored is the byte read; every other byte is as before. -/
theorem Memory.readByte_writeByte {m : Memory} (a b : Nat) (v : Byte) (hm : m.wf = true) :
    (m.writeByte a v).readByte b = if b = a then v else m.readByte b := Memory.readByte_writeByte_from a b v hm

/-! ## Aligned units -/

/-- An aligned unit lies below 2^32. -/
theorem AccSize.align_bound (n : AccSize) (a : Word) : (n.align a).toNat + n.bytes ≤ 2 ^ 32 := by
  have h := (n.align a).isLt
  cases n with
  | byte => simpa [AccSize.bytes] using h
  | half =>
    simp only [AccSize.align, AccSize.bytes] at h ⊢
    have : (a &&& 0xFFFFFFFE#32).toNat % 2 = 0 := by
      have e : (a &&& 0xFFFFFFFE#32) = a >>> 1 <<< 1 := by
        apply BitVec.eq_of_getLsbD_eq
        intro i hi
        interval_cases i <;> simp
      rw [e, BitVec.toNat_shiftLeft, Nat.shiftLeft_eq]
      omega
    omega
  | word =>
    simp only [AccSize.align, AccSize.bytes] at h ⊢
    have : (a &&& 0xFFFFFFFC#32).toNat % 4 = 0 := by
      have e : (a &&& 0xFFFFFFFC#32) = a >>> 2 <<< 2 := by
        apply BitVec.eq_of_getLsbD_eq
        intro i hi
        interval_cases i <;> simp
      rw [e, BitVec.toNat_shiftLeft, Nat.shiftLeft_eq]
      omega
    omega

theorem AccSize.align_align (n : AccSize) (a : Word) : n.align (n.align a) = n.align a := by
  cases n <;> simp [AccSize.align, BitVec.and_assoc]

/-- Storing an aligned unit keeps the canonical form. -/
theorem Memory.wf_write {m : Memory} (n : AccSize) (a v : Word) (hm : m.wf = true) :
    (m.write n (n.align a) v).wf = true := by
  have hb := n.align_bound a
  cases n <;> simp only [AccSize.bytes] at hb <;> simp only [Memory.write] <;>
    repeat (first | exact hm | refine Memory.wf_writeByte _ ?_ (by omega))

/-- A byte outside an aligned unit is not changed by a store to it. -/
theorem Memory.readByte_write_outside {m : Memory} (n : AccSize) (a v : Word) (b : Nat) (hm : m.wf = true)
    (h : outsideUnit n a b) : (m.write n (n.align a) v).readByte b = m.readByte b := by
  have hb := n.align_bound a
  unfold outsideUnit at h
  cases n <;> simp only [AccSize.bytes] at hb h <;> simp only [Memory.write]
  · rw [Memory.readByte_writeByte _ _ _ hm, if_neg (by omega)]
  · have h0 := Memory.wf_writeByte (v.extractLsb' (8 * 0) 8) hm (a := (AccSize.half.align a).toNat + 0) (by omega)
    rw [Memory.readByte_writeByte _ _ _ h0, if_neg (by omega), Memory.readByte_writeByte _ _ _ hm, if_neg (by omega)]
  · have h0 := Memory.wf_writeByte (v.extractLsb' (8 * 0) 8) hm (a := (AccSize.word.align a).toNat + 0) (by omega)
    have h1 := Memory.wf_writeByte (v.extractLsb' (8 * 1) 8) h0 (a := (AccSize.word.align a).toNat + 1) (by omega)
    have h2 := Memory.wf_writeByte (v.extractLsb' (8 * 2) 8) h1 (a := (AccSize.word.align a).toNat + 2) (by omega)
    rw [Memory.readByte_writeByte _ _ _ h2, if_neg (by omega), Memory.readByte_writeByte _ _ _ h1, if_neg (by omega),
      Memory.readByte_writeByte _ _ _ h0, if_neg (by omega), Memory.readByte_writeByte _ _ _ hm, if_neg (by omega)]

/-- The k-th byte of an aligned unit after a store to it (R202). -/
theorem Memory.readByte_write_inside {m : Memory} (n : AccSize) (a v : Word) (k : Nat) (hm : m.wf = true)
    (h : k < n.bytes) :
    (m.write n (n.align a) v).readByte ((n.align a).toNat + k) = v.extractLsb' (8 * k) 8 := by
  have hb := n.align_bound a
  cases n <;> simp only [AccSize.bytes] at hb h <;> simp only [Memory.write]
  · obtain rfl : k = 0 := by omega
    rw [Memory.readByte_writeByte _ _ _ hm, if_pos rfl]
  · have h0 := Memory.wf_writeByte (v.extractLsb' (8 * 0) 8) hm (a := (AccSize.half.align a).toNat + 0) (by omega)
    obtain rfl | rfl : k = 0 ∨ k = 1 := by omega
    · rw [Memory.readByte_writeByte _ _ _ h0, if_neg (by omega), Memory.readByte_writeByte _ _ _ hm, if_pos rfl]
    · rw [Memory.readByte_writeByte _ _ _ h0, if_pos rfl]
  · have h0 := Memory.wf_writeByte (v.extractLsb' (8 * 0) 8) hm (a := (AccSize.word.align a).toNat + 0) (by omega)
    have h1 := Memory.wf_writeByte (v.extractLsb' (8 * 1) 8) h0 (a := (AccSize.word.align a).toNat + 1) (by omega)
    have h2 := Memory.wf_writeByte (v.extractLsb' (8 * 2) 8) h1 (a := (AccSize.word.align a).toNat + 2) (by omega)
    obtain rfl | rfl | rfl | rfl : k = 0 ∨ k = 1 ∨ k = 2 ∨ k = 3 := by omega
    · rw [Memory.readByte_writeByte _ _ _ h2, if_neg (by omega), Memory.readByte_writeByte _ _ _ h1,
        if_neg (by omega), Memory.readByte_writeByte _ _ _ h0, if_neg (by omega), Memory.readByte_writeByte _ _ _ hm,
        if_pos rfl]
    · rw [Memory.readByte_writeByte _ _ _ h2, if_neg (by omega), Memory.readByte_writeByte _ _ _ h1,
        if_neg (by omega), Memory.readByte_writeByte _ _ _ h0, if_pos rfl]
    · rw [Memory.readByte_writeByte _ _ _ h2, if_neg (by omega), Memory.readByte_writeByte _ _ _ h1, if_pos rfl]
    · rw [Memory.readByte_writeByte _ _ _ h2, if_pos rfl]

end Sys2Proof.Machine
end

