-- ==== Sys2Proof/Laws/Mmu.lean ====
section
/-! SUPPORT. What translation and the access primitives can do (spec/20_memory.md R204 to R226): a success leaves the
state alone (but for the bytes stored), a fault raises with FSR and FAR written. -/

namespace Sys2Proof.Machine

/-- Everything a translation can do. -/
theorem translateVa_apply (va : Word) (n : AccSize) (f p r : Bool) (s : State) :
    translateVa va n f p r s =
      if s.faultFlag then .error (.fault .translateWithFaultFlag)
      else match s.translation va n p r with
        | .ok pa => .ok (pa, s)
        | .fault st dom => mmuFault va f st dom s
        | .refused q => .error (.refused q) := rfl

theorem translateVa_ok {va : Word} {n : AccSize} {f p r : Bool} {s : State} {pa : Word} (hf : s.faultFlag = false)
    (h : s.translation va n p r = .ok pa) : translateVa va n f p r s = .ok (pa, s) := by
  simp [translateVa_apply, hf, h]

/-- A translation that answers leaves the state as it was. -/
theorem translateVa_inv {va : Word} {n : AccSize} {f p r : Bool} {s t : State} {pa : Word}
    (h : translateVa va n f p r s = .ok (pa, t)) :
    t = s ∧ s.faultFlag = false ∧ s.translation va n p r = .ok pa := by
  rw [translateVa_apply] at h
  split at h
  · cases h
  · next hf =>
    split at h
    · next q hq => cases h; exact ⟨rfl, by simpa using hf, hq⟩
    · rw [mmuFault, raise_apply] at h; split at h <;> cases h
    · cases h

/-- A load answers exactly where Safety.lean's loadsAt says, with the unit there, and changes nothing. -/
theorem memRead_ok {s : State} {a pa : Word} {n : AccSize} {p : Bool} (h : s.loadsAt a n p pa) :
    memRead a n p s = .ok (s.mem.read n (n.align pa), s) := by
  obtain ⟨hf, ht, hb⟩ := h
  unfold memRead
  rw [act_bind_ok (translateVa_ok hf ht)]
  simp [act_bind, probe, hb]

theorem memRead_inv {s t : State} {a v : Word} {n : AccSize} {p : Bool} (h : memRead a n p s = .ok (v, t)) :
    t = s ∧ ∃ pa, s.loadsAt a n p pa ∧ v = s.mem.read n (n.align pa) := by
  unfold memRead at h
  rw [act_bind] at h
  split at h
  · next pa u hu =>
    obtain ⟨rfl, hf, ht⟩ := translateVa_inv hu
    rw [act_bind] at h
    split at h
    · next x w hw =>
      unfold probe at hw
      split at hw
      · next hb =>
        cases hw
        simp only [look_apply, Except.ok.injEq, Prod.mk.injEq] at h
        exact ⟨h.2.symm, pa, ⟨hf, ht, hb⟩, h.1.symm⟩
      · rw [raise_apply] at hw; split at hw <;> cases hw
    · cases h
  · cases h

/-- A store goes exactly where Safety.lean's storesAt says. -/
theorem memWrite_ok {s : State} {a pa v : Word} {n : AccSize} {p : Bool} (h : s.storesAt a n p pa) :
    memWrite a n v p s = .ok ((), s.store n (n.align pa) v) := by
  obtain ⟨hf, ht, hb⟩ := h
  unfold memWrite
  rw [act_bind_ok (translateVa_ok hf ht)]
  simp [act_bind, probe, hb]

theorem memWrite_inv {s t : State} {a v : Word} {n : AccSize} {p : Bool} {u : Unit}
    (h : memWrite a n v p s = .ok (u, t)) :
    ∃ pa, s.storesAt a n p pa ∧ t = s.store n (n.align pa) v := by
  unfold memWrite at h
  rw [act_bind] at h
  split at h
  · next pa w hu =>
    obtain ⟨rfl, hf, ht⟩ := translateVa_inv hu
    rw [act_bind] at h
    split at h
    · next x w hw =>
      unfold probe at hw
      split at hw
      · next hb =>
        cases hw
        simp only [change_apply, Except.ok.injEq, Prod.mk.injEq] at h
        exact ⟨pa, ⟨hf, ht, hb⟩, h.2.symm⟩
      · rw [raise_apply] at hw; split at hw <;> cases hw
    · cases h
  · cases h

/-- A translation that faults raises with FSR and FAR written (R224). -/
theorem translateVa_fault {va : Word} {n : AccSize} {f p r : Bool} {s : State} {st : FaultStatus}
    {dom : Option (BitVec 4)} (hf : s.faultFlag = false) (hp : s.pending = Pending.empty)
    (h : s.translation va n p r = .fault st dom) :
    translateVa va n f p r s
      = .error (.raised ((s.recordFault va st dom).request (if f then .prefetchAbort else .dataAbort) .mmuFault)) := by
  have hq : (s.recordFault va st dom).pending = Pending.empty := by cases dom <;> simpa [State.recordFault] using hp
  simp [translateVa_apply, hf, h, mmuFault, raise_empty hq]

/-- A load that Safety.lean's abortsAt speaks of raises what it says. -/
theorem memRead_abort {s t : State} {a : Word} {n : AccSize} {p : Bool} (hf : s.faultFlag = false)
    (hp : s.pending = Pending.empty) (h : s.abortsAt a n p true t) : memRead a n p s = .error (.raised t) := by
  unfold memRead
  rcases h with ⟨st, dom, ht, rfl⟩ | ⟨pa, ht, hb, rfl⟩
  · rw [act_bind_error (translateVa_fault hf hp ht)]
    rfl
  · rw [act_bind_ok (translateVa_ok hf ht)]
    have hb : tryRead s n (n.align pa) = false := hb
    exact act_bind_error (by simp [probe, hb, raise_empty hp])

/-- A store that Safety.lean's abortsAt speaks of raises what it says. -/
theorem memWrite_abort {s t : State} {a v : Word} {n : AccSize} {p : Bool} (hf : s.faultFlag = false)
    (hp : s.pending = Pending.empty) (h : s.abortsAt a n p false t) : memWrite a n v p s = .error (.raised t) := by
  unfold memWrite
  rcases h with ⟨st, dom, ht, rfl⟩ | ⟨pa, ht, hb, rfl⟩
  · rw [act_bind_error (translateVa_fault hf hp ht)]
    rfl
  · rw [act_bind_ok (translateVa_ok hf ht)]
    have hb : tryWrite s n (n.align pa) = false := hb
    exact act_bind_error (by simp [probe, hb, raise_empty hp])

theorem fetchRead_ok {s : State} {a pa : Word} {n : AccSize} (h : s.fetchesAt a n pa) :
    fetchRead a n s = .ok (s.mem.read n pa, s) := by
  obtain ⟨hf, ht, hb⟩ := h
  unfold fetchRead
  rw [act_bind_ok (look_apply _ _), act_bind_ok (translateVa_ok hf ht)]
  simp [act_bind, probe, hb]

/-- With the MMU off a translation is the identity (R211). -/
theorem translation_off {s : State} (h : s.mmuOn = false) (va : Word) (n : AccSize) (p r : Bool) :
    s.translation va n p r = .ok va := by simp [State.translation, h]

/-! ## What a translation reads -/

/-- A translation reads the CP15 registers, the bus and memory only. -/
theorem translation_congr {s t : State} (hc : t.control = s.control) (ht : t.ttb = s.ttb) (hd : t.dacr = s.dacr)
    (hm : t.mem = s.mem) (hb : t.bus = s.bus) (va : Word) (n : AccSize) (p r : Bool) :
    t.translation va n p r = s.translation va n p r := by
  cases s
  cases t
  subst hc ht hd hm hb
  rfl

end Sys2Proof.Machine
end

