-- ==== Sys2Proof/Laws/Regs.lean ====
section
/-! SUPPORT. The banked registers (spec/10_state.md R102 to R104): read after write, and what a write leaves alone. -/

namespace Sys2Proof.Machine

@[simp] theorem Regs.get_set_same (r : Regs) (p : PhysReg) (v : Word) : (r.set p v).get p = v := by
  cases p <;> rfl

theorem Regs.get_set_other (r : Regs) {p q : PhysReg} (v : Word) (h : q ≠ p) : (r.set p v).get q = r.get q := by
  cases p <;> cases q <;> first | rfl | exact absurd rfl h

theorem Regs.get_set (r : Regs) (p q : PhysReg) (v : Word) :
    (r.set p v).get q = if q = p then v else r.get q := by
  split
  · next h => subst h; simp
  · next h => exact r.get_set_other v h

theorem Regs.ext_get {r t : Regs} (h : ∀ p, r.get p = t.get p) : r = t := by
  cases r
  cases t
  simp only [Regs.mk.injEq]
  exact ⟨h .r0, h .r1, h .r2, h .r3, h .r4, h .r5, h .r6, h .r7, h .r8usr, h .r9usr, h .r10usr, h .r11usr,
    h .r12usr, h .r8fiq, h .r9fiq, h .r10fiq, h .r11fiq, h .r12fiq, h .r13usr, h .r14usr, h .r13svc, h .r14svc,
    h .r13abt, h .r14abt, h .r13und, h .r14und, h .r13irq, h .r14irq, h .r13fiq, h .r14fiq⟩

@[simp] theorem Spsrs.get_set_same (r : Spsrs) (b : Bank) (v : Word) : (r.set b v).get b = v := by
  cases b <;> rfl

theorem Spsrs.get_set_other (r : Spsrs) {b c : Bank} (v : Word) (h : c ≠ b) : (r.set b v).get c = r.get c := by
  cases b <;> cases c <;> first | rfl | exact absurd rfl h

/-- Every register number but 15 names a cell (R103). -/
theorem Mode.cell_isSome (m : Mode) (n : RegNum) : (m.cell n).isSome = (n != 15#4) := by
  revert n
  cases m <;> decide

theorem Mode.cell_some (m : Mode) {n : RegNum} (h : n ≠ 15#4) : ∃ p, m.cell n = some p := by
  have := m.cell_isSome n
  rw [bne_iff_ne.2 h] at this
  exact Option.isSome_iff_exists.1 this

@[simp] theorem Mode.cell_pc (m : Mode) : m.cell 15#4 = none := by cases m <;> rfl

/-- Within one mode, two numbers name one cell only when they are equal (R103). -/
theorem Mode.cell_inj (m : Mode) {n k : RegNum} {p : PhysReg} (hn : m.cell n = some p) (hk : m.cell k = some p) :
    n = k := by
  revert n k p
  cases m <;> decide

@[simp] theorem State.reg_pc (s : State) : s.reg 15#4 = s.pcOperand := by simp [State.reg]

theorem State.reg_of_cell {s : State} {n : RegNum} {p : PhysReg} (h : s.mode.cell n = some p) :
    s.reg n = s.regs.get p := by simp [State.reg, h]

theorem State.setReg_of_cell {s : State} {n : RegNum} {p : PhysReg} (v : Word) (h : s.mode.cell n = some p) :
    s.setReg n v = { s with regs := s.regs.set p v } := by simp [State.setReg, h]

/-- Writing r15 as a register does nothing: only the PC write functions write the PC (R10). -/
@[simp] theorem State.setReg_pc_none (s : State) (v : Word) : s.setReg 15#4 v = s := by simp [State.setReg]

@[simp] theorem State.setReg_pcOperand (s : State) (n : RegNum) (v : Word) :
    (s.setReg n v).pcOperand = s.pcOperand := by simp [State.pcOperand, State.pcOffset]

/-- A register write leaves every field but the cells. -/
theorem State.setReg_eta (s : State) (n : RegNum) (v : Word) :
    { s with regs := (s.setReg n v).regs } = s.setReg n v := by
  unfold State.setReg
  split <;> rfl

/-- x[n] after x[n] <- v (R104). -/
theorem State.reg_setReg_same (s : State) {n : RegNum} (v : Word) (h : n ≠ 15#4) : (s.setReg n v).reg n = v := by
  obtain ⟨p, hp⟩ := s.mode.cell_some h
  rw [State.reg_of_cell (by simpa using hp), State.setReg_of_cell v hp]
  simp

/-- Another register after x[n] <- v (R104). -/
theorem State.reg_setReg_other (s : State) {n k : RegNum} (v : Word) (h : k ≠ n) :
    (s.setReg n v).reg k = s.reg k := by
  unfold State.reg
  rw [State.setReg_mode]
  split
  · next p hp =>
    unfold State.setReg
    split
    · next q hq =>
      refine s.regs.get_set_other v ?_
      rintro rfl
      exact h (s.mode.cell_inj hp hq)
    · rfl
  · simp

theorem State.reg_setReg (s : State) (n k : RegNum) (v : Word) (h : n ≠ 15#4) :
    (s.setReg n v).reg k = if k = n then v else s.reg k := by
  split
  · next e => subst e; exact s.reg_setReg_same v h
  · next e => exact s.reg_setReg_other v e

/-- The cells that no write of register n touches. -/
theorem State.setReg_get_other (s : State) {n : RegNum} (v : Word) {p : PhysReg} (h : s.mode.cell n ≠ some p) :
    (s.setReg n v).regs.get p = s.regs.get p := by
  unfold State.setReg
  split
  · next q hq =>
    refine s.regs.get_set_other v ?_
    rintro rfl
    exact h hq
  · rfl

theorem lowReg_ne_pc (r : LowReg) : lowReg r ≠ 15#4 := by revert r; decide
@[simp] theorem lowReg_beq_pc (r : LowReg) : (lowReg r == 15#4) = false := by revert r; decide
theorem lowReg_inj {a b : LowReg} : lowReg a = lowReg b ↔ a = b := by revert a b; decide

end Sys2Proof.Machine
end

