-- ==== Sys2Proof/Laws/Lists.lean ====
section
/-! SUPPORT. What the list transfers do (spec/43_arm_block_transfer.md R550 to R552): loads change nothing until every
read has succeeded, stores write word by word. -/

namespace Sys2Proof.Machine

theorem loadWords_cons {s : State} {p : Bool} {r : RegNum} {rs : List RegNum} {a : Word}
    {vs : List (RegNum × Word)} (h : s.loadWords p (r :: rs) a = some vs) :
    ∃ pa ws, s.translation a .word p true = .ok pa ∧ tryRead s .word (AccSize.word.align pa) = true
      ∧ s.loadWords p rs (a + 4#32) = some ws ∧ vs = (r, s.mem.read .word (AccSize.word.align pa)) :: ws := by
  simp only [State.loadWords] at h
  split at h
  · next pa ht =>
    split at h
    · next hb =>
      rw [Option.map_eq_some_iff] at h
      obtain ⟨ws, hw, rfl⟩ := h
      exact ⟨pa, ws, ht, hb, hw, rfl⟩
    · cases h
  · cases h
  · cases h

/-- A list load answers the words of loadWords and changes nothing (R552). -/
theorem loadList_ok {s : State} {p : Bool} (hf : s.faultFlag = false) {rs : List RegNum} {a : Word}
    {vs : List (RegNum × Word)} (h : s.loadWords p rs a = some vs) : loadList p rs a s = .ok (vs, s) := by
  induction rs generalizing a vs with
  | nil => cases h; rfl
  | cons r rs ih =>
    obtain ⟨pa, ws, ht, hb, hw, rfl⟩ := loadWords_cons h
    unfold loadList
    rw [act_bind_ok (memRead_ok ⟨hf, ht, hb⟩), act_bind_ok (ih hw), act_pure]

/-- A list load that answers has read every word and changed nothing (R552). -/
theorem loadList_inv {s t : State} {p : Bool} {rs : List RegNum} {a : Word} {vs : List (RegNum × Word)}
    (h : loadList p rs a s = .ok (vs, t)) : t = s ∧ (rs ≠ [] → s.faultFlag = false) ∧ vs.map Prod.fst = rs := by
  induction rs generalizing a vs t with
  | nil => cases h; simp
  | cons r rs ih =>
    unfold loadList at h
    rw [act_bind] at h
    split at h
    · next v u hu =>
      obtain ⟨rfl, pa, hl, _⟩ := memRead_inv hu
      rw [act_bind] at h
      split at h
      · next ws w hw =>
        obtain ⟨rfl, _, hm⟩ := ih hw
        cases h
        exact ⟨rfl, fun _ => hl.1, by simp [hm]⟩
      · cases h
    · cases h

/-- A list store runs storeWords over the registers' values, which no store changes (R552). -/
theorem storeList_ok {s t : State} {p : Bool} {value : State → RegNum → Word} (hf : s.faultFlag = false)
    (hv : ∀ (u : State) n pa v r, value (u.store n pa v) r = value u r) {rs : List RegNum} {a : Word}
    (h : storeWords p s (rs.map (value s)) a = some t) : storeList value p rs a s = .ok ((), t) := by
  induction rs generalizing a s with
  | nil => cases h; rfl
  | cons r rs ih =>
    simp only [List.map_cons, storeWords] at h
    split at h
    · next pa ht =>
      split at h
      · next hb =>
        unfold storeList
        rw [act_bind_ok (look_apply _ _), act_bind_ok (memWrite_ok ⟨hf, ht, hb⟩)]
        exact ih (s := s.store .word (AccSize.word.align pa) (value s r)) (by simpa using hf)
          (by rwa [List.map_congr_left fun r _ => hv s .word (AccSize.word.align pa) _ r])
      · cases h
    · cases h
    · cases h

/-- A list load whose k-th word aborts after the words before it have loaded raises what that access raises: nothing
has been written (R552). -/
theorem loadList_abort {s t : State} {p : Bool} (hf : s.faultFlag = false) (hp : s.pending = Pending.empty)
    {rs : List RegNum} {a : Word} {k : Nat} (hk : k < rs.length)
    (hl : (s.loadWords p (rs.take k) a).isSome = true)
    (h : s.abortsAt (a + BitVec.ofNat 32 (4 * k)) .word p true t) : loadList p rs a s = .error (.raised t) := by
  induction rs generalizing a k with
  | nil => simp at hk
  | cons r rs ih =>
    unfold loadList
    cases k with
    | zero => exact act_bind_error (memRead_abort hf hp (by simpa using h))
    | succ k =>
      obtain ⟨vs, hvs⟩ := Option.isSome_iff_exists.1 hl
      obtain ⟨pa, ws, ht, hb, hw, -⟩ := loadWords_cons hvs
      rw [act_bind_ok (memRead_ok ⟨hf, ht, hb⟩)]
      refine act_bind_error (ih (k := k) (by simpa using hk) (by simp [hw]) ?_)
      rwa [show a + 4#32 + BitVec.ofNat 32 (4 * k) = a + BitVec.ofNat 32 (4 * (k + 1)) by
        rw [Nat.mul_add, Nat.add_comm, BitVec.ofNat_add, BitVec.add_assoc]]

/-- A list store whose k-th word aborts after the words before it are stored raises what that access raises in the
state that holds them (R552). -/
theorem storeList_abort {s q t : State} {p : Bool} {value : State → RegNum → Word} (hf : s.faultFlag = false)
    (hp : s.pending = Pending.empty) (hv : ∀ (u : State) n pa v r, value (u.store n pa v) r = value u r)
    {rs : List RegNum} {a : Word} {k : Nat} (hk : k < rs.length)
    (hl : storeWords p s ((rs.map (value s)).take k) a = some q)
    (h : q.abortsAt (a + BitVec.ofNat 32 (4 * k)) .word p false t) :
    storeList value p rs a s = .error (.raised t) := by
  induction rs generalizing a k s with
  | nil => simp at hk
  | cons r rs ih =>
    unfold storeList
    rw [act_bind_ok (look_apply _ _)]
    cases k with
    | zero =>
      cases hl
      exact act_bind_error (memWrite_abort hf hp (by simpa using h))
    | succ k =>
      simp only [List.map_cons, List.take_succ_cons, storeWords] at hl
      split at hl
      · next pa ht =>
        split at hl
        · next hb =>
          rw [act_bind_ok (memWrite_ok ⟨hf, ht, hb⟩)]
          refine ih (s := s.store .word (AccSize.word.align pa) (value s r)) (k := k) (by simpa using hf)
            (by simpa using hp) (by simpa using hk) ?_ ?_
          · rwa [List.map_congr_left fun r _ => hv s .word (AccSize.word.align pa) _ r]
          · rwa [show a + 4#32 + BitVec.ofNat 32 (4 * k) = a + BitVec.ofNat 32 (4 * (k + 1)) by
              rw [Nat.mul_add, Nat.add_comm, BitVec.ofNat_add, BitVec.add_assoc]]
        · cases hl
      · cases hl
      · cases hl

/-- A list store changes nothing but memory. -/
theorem storeWords_frame {p : Bool} {s t : State} {vs : List Word} {a : Word} (h : storeWords p s vs a = some t) :
    t = { s with mem := t.mem } := by
  induction vs generalizing s a with
  | nil => cases h; rfl
  | cons v vs ih =>
    simp only [storeWords] at h
    split at h
    · split at h
      · have := ih h
        exact this
      · cases h
    · cases h
    · cases h

/-! ## Register lists (R550) -/

theorem mem_listRegs (list : BitVec 16) (r : RegNum) : r ∈ listRegs list ↔ list.getLsbD r.toNat = true := by
  unfold listRegs
  simp only [List.mem_map, List.mem_filter, List.mem_range]
  constructor
  · rintro ⟨i, ⟨hi, h⟩, rfl⟩
    simpa [Nat.mod_eq_of_lt hi] using h
  · exact fun h => ⟨r.toNat, ⟨by omega, h⟩, by simp⟩

theorem nodup_listRegs (list : BitVec 16) : (listRegs list).Nodup := by
  unfold listRegs
  refine List.Nodup.map_on ?_ (List.Nodup.filter _ List.nodup_range)
  intro x hx y hy h
  simp only [List.mem_filter, List.mem_range] at hx hy
  have := congrArg BitVec.toNat h
  simp only [BitVec.toNat_ofNat] at this
  omega

theorem sorted_listRegs (list : BitVec 16) : (listRegs list).Pairwise fun a b => a.toNat < b.toNat := by
  unfold listRegs
  rw [List.pairwise_map]
  have h : ((List.range 16).filter fun i => list.getLsbD i).Pairwise fun a b => a < b ∧ b < 16 := by
    refine List.Pairwise.filter _ ?_
    decide
  exact h.imp fun ⟨h1, h2⟩ => by simp only [BitVec.toNat_ofNat]; omega

/-- The words loaded for a list are those of its registers, in order (R552). -/
theorem loadWords_fst {s : State} {p : Bool} {rs : List RegNum} {a : Word} {vs : List (RegNum × Word)}
    (h : s.loadWords p rs a = some vs) : vs.map Prod.fst = rs := by
  induction rs generalizing a vs with
  | nil => cases h; rfl
  | cons r rs ih =>
    obtain ⟨pa, ws, _, _, hw, rfl⟩ := loadWords_cons h
    simp [ih hw]

/-- The k-th word loaded for a list is that at the k-th address (R552). -/
theorem loadWords_getElem {s : State} {p : Bool} (hf : s.faultFlag = false) {rs : List RegNum} {a : Word}
    {vs : List (RegNum × Word)} (h : s.loadWords p rs a = some vs) {k : Nat} {x : RegNum × Word}
    (hk : vs[k]? = some x) :
    ∃ pa, s.loadsAt (a + BitVec.ofNat 32 (4 * k)) .word p pa
      ∧ x.2 = s.mem.read .word (AccSize.word.align pa) := by
  induction rs generalizing a vs k with
  | nil => cases h; simp at hk
  | cons r rs ih =>
    obtain ⟨pa, ws, ht, hb, hw, rfl⟩ := loadWords_cons h
    cases k with
    | zero =>
      simp only [List.getElem?_cons_zero, Option.some.injEq] at hk
      subst hk
      exact ⟨pa, ⟨hf, by simpa using ht, hb⟩, rfl⟩
    | succ k =>
      obtain ⟨pb, hl, hx⟩ := ih hw (by simpa using hk)
      refine ⟨pb, ?_, hx⟩
      rwa [show a + 4#32 + BitVec.ofNat 32 (4 * k) = a + BitVec.ofNat 32 (4 * (k + 1)) by
        rw [Nat.mul_add, Nat.add_comm, BitVec.ofNat_add, BitVec.add_assoc]] at hl

/-! ## The loaded registers (R553 to R555) -/

theorem State.setRegs_cons (s : State) (x : RegNum × Word) (vs : List (RegNum × Word)) :
    s.setRegs (x :: vs) = (s.setReg x.1 x.2).setRegs vs := by
  unfold State.setRegs
  rw [List.foldl_cons]
  split
  · next h => rw [h, State.setReg_pc_none]
  · rfl

theorem State.setUserRegs_cons (s : State) (x : RegNum × Word) (vs : List (RegNum × Word)) :
    s.setUserRegs (x :: vs) = (s.setUserReg x.1 x.2).setUserRegs vs := rfl

theorem State.setRegs_eta (s : State) (vs : List (RegNum × Word)) :
    { s with regs := (s.setRegs vs).regs } = s.setRegs vs := by
  induction vs generalizing s with
  | nil => rfl
  | cons x vs ih =>
    rw [State.setRegs_cons, ← ih, ← State.setReg_eta s x.1 x.2]

theorem State.setUserReg_eta (s : State) (n : RegNum) (v : Word) :
    { s with regs := (s.setUserReg n v).regs } = s.setUserReg n v := by
  unfold State.setUserReg
  split <;> rfl

theorem State.setUserRegs_eta (s : State) (vs : List (RegNum × Word)) :
    { s with regs := (s.setUserRegs vs).regs } = s.setUserRegs vs := by
  induction vs generalizing s with
  | nil => rfl
  | cons x vs ih =>
    rw [State.setUserRegs_cons, ← ih, ← State.setUserReg_eta s x.1 x.2]

/-- A register outside the loaded list keeps its value. -/
theorem State.reg_setRegs_other (s : State) {vs : List (RegNum × Word)} {r : RegNum}
    (h : r ∉ vs.map Prod.fst) : (s.setRegs vs).reg r = s.reg r := by
  induction vs generalizing s with
  | nil => rfl
  | cons x vs ih =>
    simp only [List.map_cons, List.mem_cons, not_or] at h
    rw [State.setRegs_cons, ih _ h.2, State.reg_setReg_other _ _ h.1]

/-- A register of the loaded list holds its word. -/
theorem State.reg_setRegs_mem (s : State) {vs : List (RegNum × Word)} (hn : (vs.map Prod.fst).Nodup) {r : RegNum}
    {v : Word} (h : (r, v) ∈ vs) (hr : r ≠ 15#4) : (s.setRegs vs).reg r = v := by
  induction vs generalizing s with
  | nil => cases h
  | cons x vs ih =>
    simp only [List.map_cons, List.nodup_cons] at hn
    rw [State.setRegs_cons]
    rcases List.mem_cons.1 h with h | h
    · subst h
      rw [State.reg_setRegs_other _ hn.1, State.reg_setReg_same _ _ hr]
    · exact ih _ hn.2 h

theorem State.userReg_setUserReg_same (s : State) {n : RegNum} (v : Word) (h : n ≠ 15#4) :
    (s.setUserReg n v).userReg n = v := by
  obtain ⟨p, hp⟩ := Mode.usr.cell_some h
  simp [State.setUserReg, State.userReg, hp]

theorem State.userReg_setUserReg_other (s : State) {n k : RegNum} (v : Word) (h : k ≠ n) :
    (s.setUserReg n v).userReg k = s.userReg k := by
  unfold State.userReg
  split
  · next p hp =>
    unfold State.setUserReg
    split
    · next q hq =>
      refine s.regs.get_set_other v ?_
      rintro rfl
      exact h (Mode.usr.cell_inj hp hq)
    · rfl
  · rw [← State.setUserReg_eta]
    rfl

/-- A User-bank register outside the loaded list keeps its value. -/
theorem State.userReg_setUserRegs_other (s : State) {vs : List (RegNum × Word)} {r : RegNum}
    (h : r ∉ vs.map Prod.fst) : (s.setUserRegs vs).userReg r = s.userReg r := by
  induction vs generalizing s with
  | nil => rfl
  | cons x vs ih =>
    simp only [List.map_cons, List.mem_cons, not_or] at h
    rw [State.setUserRegs_cons, ih _ h.2, State.userReg_setUserReg_other _ _ h.1]

/-- A User-bank register of the loaded list holds its word. -/
theorem State.userReg_setUserRegs_mem (s : State) {vs : List (RegNum × Word)} (hn : (vs.map Prod.fst).Nodup)
    {r : RegNum} {v : Word} (h : (r, v) ∈ vs) (hr : r ≠ 15#4) : (s.setUserRegs vs).userReg r = v := by
  induction vs generalizing s with
  | nil => cases h
  | cons x vs ih =>
    simp only [List.map_cons, List.nodup_cons] at hn
    rw [State.setUserRegs_cons]
    rcases List.mem_cons.1 h with h | h
    · subst h
      rw [State.userReg_setUserRegs_other _ hn.1, State.userReg_setUserReg_same _ _ hr]
    · exact ih _ hn.2 h

/-- A cell that no loaded register names in the User bank keeps its content. -/
theorem State.setUserRegs_get_other (s : State) {vs : List (RegNum × Word)} {q : PhysReg}
    (h : ∀ r ∈ vs.map Prod.fst, Mode.usr.cell r ≠ some q) : (s.setUserRegs vs).regs.get q = s.regs.get q := by
  induction vs generalizing s with
  | nil => rfl
  | cons x vs ih =>
    rw [State.setUserRegs_cons, ih _ fun r hr => h r (by simp [List.mem_map.1 hr])]
    have hx := h x.1 (by simp)
    unfold State.setUserReg
    split
    · next p hp => exact s.regs.get_set_other _ fun e => hx (e ▸ hp)
    · rfl

theorem lookup_of_mem {vs : List (RegNum × Word)} (hn : (vs.map Prod.fst).Nodup) {r : RegNum} {v : Word}
    (h : (r, v) ∈ vs) : vs.lookup r = some v := by
  induction vs with
  | nil => cases h
  | cons x xs ih =>
    obtain ⟨a, b⟩ := x
    simp only [List.map_cons, List.nodup_cons] at hn
    rcases List.mem_cons.1 h with h | h
    · cases h
      simp
    · have hr : r ≠ a := fun e => hn.1 (List.mem_map.2 ⟨(r, v), h, e⟩)
      simp [List.lookup_cons, beq_false_of_ne hr, ih hn.2 h]

theorem lookup_of_not_mem {vs : List (RegNum × Word)} {r : RegNum} (h : r ∉ vs.map Prod.fst) :
    vs.lookup r = none := by
  induction vs with
  | nil => rfl
  | cons x xs ih =>
    obtain ⟨a, b⟩ := x
    simp only [List.map_cons, List.mem_cons, not_or] at h
    rw [List.lookup_cons, beq_false_of_ne h.1]
    exact ih h.2

/-- The PC's word among the words loaded for a list (R553). -/
theorem loadedPc_some {s : State} {p : Bool} {list : BitVec 16} {a v : Word} {vs : List (RegNum × Word)}
    (h : s.loadWords p (listRegs list) a = some vs) (hv : (15#4, v) ∈ vs) : loadedPc vs = some v :=
  lookup_of_mem (by rw [loadWords_fst h]; exact nodup_listRegs list) hv

theorem loadedPc_none {s : State} {p : Bool} {list : BitVec 16} {a : Word} {vs : List (RegNum × Word)}
    (h : s.loadWords p (listRegs list) a = some vs) (hl : list.getLsbD 15 = false) : loadedPc vs = none :=
  lookup_of_not_mem (by rw [loadWords_fst h, mem_listRegs]; simpa using hl)

end Sys2Proof.Machine
end

