-- ==== Sys2Proof/Laws/Results.lean ====
section
/-! SUPPORT. The shared pieces of the meanings in the words of Safety.lean: write-backs, PC writes, rotations and
alignment tests. -/

namespace Sys2Proof.Machine

/-! ## Registers -/

theorem State.setReg_keep_cpsr (s : State) (n : RegNum) (v : Word) :
    { s.setReg n v with cpsr := s.cpsr } = s.setReg n v := by
  unfold State.setReg
  split <;> rfl

@[simp] theorem State.writtenBack_none (s : State) (n : RegNum) : s.writtenBack n none = s := rfl
@[simp] theorem State.writtenBack_some (s : State) (n : RegNum) (v : Word) :
    s.writtenBack n (some v) = s.setReg n v := rfl

@[simp] theorem writeBackBase_apply (n : RegNum) (wb : Option Word) (s : State) :
    writeBackBase n wb s = .ok ((), s.writtenBack n wb) := by cases wb <;> rfl

/-! ## The PC writes (R109) -/

theorem outcomeOf_bxWritePC (v : Word) (s : State) :
    outcomeOf (bxWritePC v s)
      = match s.exchangeTo v with
        | some t => .next t
        | none => .refused (.unpredictable .bxToArm) := by
  unfold State.exchangeTo
  rw [bxWritePC_apply]
  split
  · rfl
  · split <;> rfl

theorem outcomeOf_aluWritePC (v : Word) (s : State) :
    outcomeOf (aluWritePC v s)
      = match s.aluTo v with
        | some t => .next t
        | none => .refused (.unpredictable .armPcWrite) := by
  unfold State.aluTo
  rw [aluWritePC_apply]
  split
  · rfl
  · split <;> rfl

/-- Everything the return from an exception can do (R921). -/
theorem outcomeOf_returnFromException (v : Word) (s : State) :
    outcomeOf (returnFromException v s)
      = match s.mode.bank with
        | none => .fault .spsrAccess
        | some b =>
          if (Mode.ofBits (psrM (s.spsr.get b))).isSome then
            match { s with cpsr := s.spsr.get b }.aluTo v with
            | some t => .next t
            | none => .refused (.unpredictable .armPcWrite)
          else .refused (.unsupported .malformedMode) := by
  rcases h : s.mode.bank with _ | b
  · rw [returnFromException_user h]
    rfl
  · by_cases hm : (Mode.ofBits (psrM (s.spsr.get b))).isSome = true
    · rw [returnFromException_apply h hm, outcomeOf_aluWritePC]
      simp [hm]
    · simp [returnFromException, restoreCpsr, act_bind, currentBank_some h, writeCpsr_apply, hm]

/-! ## Addresses -/

theorem rotateLoaded_eq (a data : Word) : rotateLoaded a data = data.rotateRight (8 * (a.toNat % 4)) := by
  simp [rotateLoaded, ror, BitVec.extractLsb'_toNat]

theorem AccSize.aligned_iff (n : AccSize) (a : Word) : n.aligned a = true ↔ a.toNat % n.bytes = 0 := by
  cases n
  · simp [AccSize.aligned, AccSize.align, AccSize.bytes, Nat.mod_one]
  · have h : (a &&& 0xFFFFFFFE#32 = a) ↔ a.extractLsb' 0 1 = 0#1 := by
      constructor <;> intro h <;> apply BitVec.eq_of_getLsbD_eq <;> intro i hi
      · have := congrArg (fun x => x.getLsbD i) h
        interval_cases i
        simpa using this
      · have := congrArg (fun x => x.getLsbD 0) h
        rcases Nat.eq_zero_or_pos i with rfl | hp
        · simpa using this
        · interval_cases i <;> simp
    simp only [AccSize.aligned, AccSize.align, AccSize.bytes, beq_iff_eq, h]
    rw [← BitVec.toNat_inj]
    simp [BitVec.extractLsb'_toNat]
  · have h : (a &&& 0xFFFFFFFC#32 = a) ↔ a.extractLsb' 0 2 = 0#2 := by
      constructor <;> intro h <;> apply BitVec.eq_of_getLsbD_eq <;> intro i hi
      · have := congrArg (fun x => x.getLsbD i) h
        interval_cases i <;> simpa using this
      · have h0 := congrArg (fun x => x.getLsbD 0) h
        have h1 := congrArg (fun x => x.getLsbD 1) h
        rcases i with _ | _ | k
        · simpa using h0
        · simpa using h1
        · have hk : k < 30 := by omega
          interval_cases k <;> simp
    simp only [AccSize.aligned, AccSize.align, AccSize.bytes, beq_iff_eq, h]
    rw [← BitVec.toNat_inj]
    simp [BitVec.extractLsb'_toNat]

theorem notDoubleword_eq (a : Word) : notDoubleword a = decide (a.toNat % 8 ≠ 0) := by
  have h : (a.extractLsb' 0 3).toNat = a.toNat % 8 := by simp [BitVec.extractLsb'_toNat]
  by_cases h8 : a.toNat % 8 = 0
  · simp [notDoubleword, h8, show a.extractLsb' 0 3 = 0#3 from BitVec.eq_of_toNat_eq (by simpa [h] using h8)]
  · have hn : a.extractLsb' 0 3 ≠ 0#3 := fun e => h8 (by rw [← h, e]; rfl)
    simp [notDoubleword, h8, hn]

/-- Where the stop of a doubleword access falls (R207, log entry 21). -/
theorem oddDoubleword_eq (s : State) (a : Word) :
    s.oddDoubleword a
      = decide (a.toNat % 8 ≠ 0 ∧ ¬(s.mmuOn = true ∧ s.alignCheck = true ∧ a.toNat % 4 ≠ 0)) := by
  have h := AccSize.aligned_iff .word a
  simp only [AccSize.bytes] at h
  unfold State.oddDoubleword
  rw [notDoubleword_eq, Bool.eq_iff_iff]
  cases s.mmuOn <;> cases s.alignCheck <;> by_cases h4 : a.toNat % 4 = 0 <;> simp_all

theorem noPair_eq (rd : RegNum) : noPair rd = decide (rd.toNat % 2 = 1 ∨ rd = 14#4) := by revert rd; decide

/-! ## Stores (R205) -/

theorem readByte_store_outside {s : State} (n : AccSize) (pa v : Word) (a : Nat) (h : s.mem.wf = true)
    (ho : outsideUnit n pa a) : (s.store n (n.align pa) v).mem.readByte a = s.mem.readByte a :=
  Memory.readByte_write_outside n pa v a h ho

theorem readByte_store_inside {s : State} (n : AccSize) (pa v : Word) (k : Nat) (h : s.mem.wf = true)
    (hk : k < n.bytes) :
    (s.store n (n.align pa) v).mem.readByte ((n.align pa).toNat + k) = v.extractLsb' (8 * k) 8 :=
  Memory.readByte_write_inside n pa v k h hk

end Sys2Proof.Machine
end

