-- ==== Sys2Proof/Laws/Updates.lean ====
section
/-! SUPPORT. What an instruction can do to the state, said once: every next state of exec is reached by the
elementary updates of Upd, each with the guard its rule tests. An invariant of every step is then a case analysis
over Upd. -/

namespace Sys2Proof.Machine

variable {α β : Type}

/-- A PC value aligned for an instruction set: Thumb for true (R107). -/
def alignedFor (thumb : Bool) (v : Word) : Prop :=
  if thumb then v.getLsbD 0 = false else v.extractLsb' 0 2 = 0b00#2

theorem State.pcAligned_iff (s : State) : s.pcAligned ↔ alignedFor (psrT s.cpsr) s.pc := Iff.rfl

/-- One elementary update. The alignment of a branch target rests on A, which says that the branch was executed at
an aligned PC in its own instruction set. -/
inductive Upd (A : Prop) : State → State → Prop where
  | reg (s : State) (n : RegNum) (v : Word) : Upd A s (s.setReg n v)
  | userReg (s : State) (n : RegNum) (v : Word) : Upd A s (s.setUserReg n v)
  | flags (s : State) (p : Word) (h : ∀ j, j < 28 → p.getLsbD j = s.cpsr.getLsbD j) : Upd A s { s with cpsr := p }
  | jump (s : State) (v : Word) (h : A → alignedFor (psrT s.cpsr) v) : Upd A s (s.jump v)
  | exchange (s : State) (t : Bool) (v : Word) (h : A → alignedFor t v) :
    Upd A s ({ s with cpsr := withT s.cpsr t }.jump v)
  | restore (s : State) (b : Bank) (v : Word) (hb : s.mode.bank = some b)
    (hm : (Mode.ofBits (psrM (s.spsr.get b))).isSome = true) (h : alignedFor (psrT (s.spsr.get b)) v) :
    Upd A s ({ s with cpsr := s.spsr.get b }.jump v)
  | status (s : State) (p : Word) (ht : psrT p = psrT s.cpsr) (hm : (Mode.ofBits (psrM p)).isSome = true)
    (hu : s.privileged = false → ∀ j, j < 24 → p.getLsbD j = s.cpsr.getLsbD j) : Upd A s { s with cpsr := p }
  | saved (s : State) (b : Bank) (v : Word) (hb : s.mode.bank = some b) :
    Upd A s { s with spsr := s.spsr.set b v }
  | store (s : State) (n : AccSize) (pa v : Word) : Upd A s (s.store n (n.align pa) v)
  | fault (s : State) (va : Word) (st : FaultStatus) (dom : Option (BitVec 4)) : Upd A s (s.recordFault va st dom)
  | request (s : State) (k : ExcKind) (why : Reason) (h : s.pending = Pending.empty) : Upd A s (s.request k why)
  | control (s : State) (v : Word) (hp : s.privileged = true) : Upd A s { s with control := controlWritten v }
  | ttb (s : State) (v : Word) (hp : s.privileged = true) : Upd A s { s with ttb := v }
  | dacr (s : State) (v : Word) (hp : s.privileged = true) : Upd A s { s with dacr := v }
  | fsr (s : State) (v : Word) (hp : s.privileged = true) : Upd A s { s with fsr := v }
  | far (s : State) (v : Word) (hp : s.privileged = true) : Upd A s { s with far := v }
  | wait (s : State) (hp : s.privileged = true) : Upd A s { s with waiting := true }

/-- Finitely many elementary updates. -/
abbrev Upds (A : Prop) : State → State → Prop := Relation.ReflTransGen (Upd A)

theorem Upd.one {A : Prop} {s t : State} (h : Upd A s t) : Upds A s t := Relation.ReflTransGen.single h

/-- Every end of a pseudocode from a state, normal or by a raise, is reached by elementary updates. -/
def DoesAt (A : Prop) (m : Act α) (s : State) : Prop :=
  (∀ a t, m s = .ok (a, t) → Upds A s t) ∧ ∀ t, m s = .error (.raised t) → Upds A s t

/-- The same from every state. -/
def Does (A : Prop) (m : Act α) : Prop := ∀ s, DoesAt A m s

variable {A : Prop}

theorem DoesAt.bind {m : Act α} {f : α → Act β} {s : State} (hm : DoesAt A m s)
    (hf : ∀ a t, m s = .ok (a, t) → DoesAt A (f a) t) : DoesAt A (m >>= f) s := by
  refine ⟨fun b u h => ?_, fun u h => ?_⟩ <;> rw [act_bind] at h <;> split at h
  · next a t e => exact (hm.1 a t e).trans ((hf a t e).1 b u h)
  · cases h
  · next a t e => exact (hm.1 a t e).trans ((hf a t e).2 u h)
  · next e => cases h; exact hm.2 u e

theorem Does.bind {m : Act α} {f : α → Act β} (hm : Does A m) (hf : ∀ a, Does A (f a)) : Does A (m >>= f) :=
  fun s => (hm s).bind fun a t _ => hf a t

/-- A test that leaves the state, with what its success says. -/
theorem DoesAt.guard {m : Act α} {f : α → Act β} {s : State} (hm : ∀ a t, m s = .ok (a, t) → t = s)
    (hr : ∀ t, m s = .error (.raised t) → Upds A s t) (hf : ∀ a, m s = .ok (a, s) → DoesAt A (f a) s) :
    DoesAt A (m >>= f) s :=
  DoesAt.bind ⟨fun a t e => by rw [hm a t e], hr⟩ fun a t e => by
    have := hm a t e
    subst this
    exact hf a e

theorem does_pure (a : α) : Does A (pure a) := fun s =>
  ⟨fun _ _ h => by cases h; exact .refl, fun _ h => by cases h⟩

theorem does_look (f : State → α) : Does A (look f) := fun s =>
  ⟨fun _ _ h => by cases h; exact .refl, fun _ h => by cases h⟩

theorem doesAt_change {f : State → State} {s : State} (h : Upds A s (f s)) : DoesAt A (change f) s :=
  ⟨fun _ _ e => by cases e; exact h, fun _ e => by cases e⟩

theorem does_stopUnsupported (w : UnsupportedReason) : Does A (stopUnsupported w : Act α) := fun s =>
  ⟨fun _ _ h => by (rw [stopUnsupported_apply] at h; cases h),
    fun _ h => by (rw [stopUnsupported_apply] at h; cases h)⟩

theorem does_unpredictableIf (b : Bool) (w : UnpredictableReason) : Does A (unpredictableIf b w) := fun s => by
  refine ⟨fun a t h => ?_, fun t h => ?_⟩ <;> rw [unpredictableIf_apply] at h <;> split at h <;> cases h
  exact .refl

theorem does_shouldBe (b : Bool) : Does A (shouldBe b) := does_unpredictableIf _ _

theorem does_raise (k : ExcKind) (w : Reason) : Does A (raise k w : Act α) := fun s => by
  refine ⟨fun a t h => ?_, fun t h => ?_⟩ <;> rw [raise_apply] at h <;> split at h <;> cases h
  next hp => exact (Upd.request s k w hp).one

theorem doesAt_whenPassed {c : Cond} {m : Act Unit} {s : State} (h : condPassed c s.cpsr = true → DoesAt A m s) :
    DoesAt A (whenPassed c m) s := by
  by_cases hc : condPassed c s.cpsr = true
  · have := h hc
    unfold DoesAt at *
    rwa [whenPassed_passed hc]
  · have hc : condPassed c s.cpsr = false := by simpa using hc
    unfold DoesAt
    rw [whenPassed_failed hc]
    exact ⟨fun _ _ e => by cases e; exact .refl, fun _ e => by cases e⟩

theorem does_whenPassed (c : Cond) {m : Act Unit} (h : Does A m) : Does A (whenPassed c m) :=
  fun s => doesAt_whenPassed fun _ => h s

theorem does_ite {p : Prop} [Decidable p] {m n : Act α} (hm : Does A m) (hn : Does A n) :
    Does A (if p then m else n) := by
  split <;> assumption

/-! ## Registers, status and the PC -/

theorem does_readReg (n : RegNum) : Does A (readReg n) := does_look _

theorem does_writeReg (n : RegNum) (v : Word) : Does A (writeReg n v) :=
  fun s => doesAt_change (Upd.reg s n v).one

theorem does_writeBackBase (n : RegNum) (wb : Option Word) : Does A (writeBackBase n wb) := by
  cases wb
  · exact does_pure ()
  · exact does_writeReg n _

theorem setCpsrFlags_does {f : Word → Word} (h : ∀ p j, j < 28 → (f p).getLsbD j = p.getLsbD j) :
    Does A (setCpsrFlags f) := fun s => doesAt_change (Upd.flags s _ (h s.cpsr)).one

theorem getLsbD_arithFlags_low (p : Word) (o : AluOut) (j : Nat) (h : j < 28) :
    (arithFlags p o).getLsbD j = p.getLsbD j := by
  rw [arithFlags, getLsbD_withNZCV]
  simp [show j ≠ 31 by omega, show j ≠ 30 by omega, show j ≠ 29 by omega, show j ≠ 28 by omega]

theorem getLsbD_logicFlags_low (p r : Word) (c : Bool) (j : Nat) (h : j < 28) :
    (logicFlags p r c).getLsbD j = p.getLsbD j := by
  rw [logicFlags, getLsbD_withNZC]
  simp [show j ≠ 31 by omega, show j ≠ 30 by omega, show j ≠ 29 by omega]

theorem getLsbD_nzFlags_low (p r : Word) (j : Nat) (h : j < 28) : (nzFlags p r).getLsbD j = p.getLsbD j := by
  rw [nzFlags, getLsbD_withNZ]
  simp [show j ≠ 31 by omega, show j ≠ 30 by omega]

theorem getLsbD_nzFlags64_low (p : Word) (r : DWord) (j : Nat) (h : j < 28) :
    (nzFlags64 p r).getLsbD j = p.getLsbD j := by
  rw [nzFlags64, getLsbD_withNZ]
  simp [show j ≠ 31 by omega, show j ≠ 30 by omega]

theorem getLsbD_copyFlags_low (v p : Word) (j : Nat) (h : j < 28) : (copyFlags v p).getLsbD j = p.getLsbD j := by
  rw [copyFlags, getLsbD_withNZCV]
  simp [show j ≠ 31 by omega, show j ≠ 30 by omega, show j ≠ 29 by omega, show j ≠ 28 by omega]

theorem getLsbD_dpFlags_low (op : DpOp) (o : AluOut) (p : Word) (j : Nat) (h : j < 28) :
    (op.flags o p).getLsbD j = p.getLsbD j := by
  unfold DpOp.flags
  split
  · exact getLsbD_arithFlags_low p o j h
  · exact getLsbD_logicFlags_low p _ _ j h

theorem alignedFor_clearBit0 (v : Word) : alignedFor true (v &&& 0xFFFFFFFE#32) := by simp [alignedFor]

theorem alignedFor_of_bits {v : Word} (h0 : v.getLsbD 0 = false) (h1 : v.getLsbD 1 = false) : alignedFor false v := by
  simp only [alignedFor, Bool.false_eq_true, if_false]
  apply BitVec.eq_of_getLsbD_eq
  intro i hi
  rw [BitVec.getLsbD_extractLsb']
  interval_cases i
  · simpa using h0
  · simpa using h1

theorem does_bxWritePC (v : Word) : Does A (bxWritePC v) := fun s => by
  refine ⟨fun a t h => ?_, fun t h => ?_⟩ <;> rw [bxWritePC_apply] at h <;> split at h
  · cases h
    exact (Upd.exchange s true _ fun _ => alignedFor_clearBit0 v).one
  · next h0 =>
    split at h
    · cases h
    · next h1 =>
      cases h
      exact (Upd.exchange s false v fun _ => alignedFor_of_bits (by simpa using h0) (by simpa using h1)).one
  · cases h
  · split at h <;> cases h

theorem alignedFor_aluTo {t : Bool} {v : Word} (h : t = false → v.extractLsb' 0 2 = 0b00#2) :
    alignedFor t (if t then v &&& 0xFFFFFFFE#32 else v) := by
  cases t
  · simpa [alignedFor] using h rfl
  · exact alignedFor_clearBit0 v

theorem does_aluWritePC (v : Word) : Does A (aluWritePC v) := fun s => by
  refine ⟨fun a t h => ?_, fun t h => ?_⟩ <;> rw [aluWritePC_apply] at h <;> split at h
  · next ht =>
    cases h
    exact (Upd.jump s _ fun _ => by rw [ht]; exact alignedFor_clearBit0 v).one
  · next ht =>
    split at h
    · next h0 =>
      cases h
      exact (Upd.jump s v fun _ => by simpa [alignedFor, ht] using h0).one
    · cases h
  · cases h
  · split at h <;> cases h

theorem does_returnFromException (v : Word) : Does A (returnFromException v) := fun s => by
  rcases hb : s.mode.bank with _ | b
  · refine ⟨fun a t h => ?_, fun t h => ?_⟩ <;> rw [returnFromException_user hb] at h <;> cases h
  · by_cases hm : (Mode.ofBits (psrM (s.spsr.get b))).isSome = true
    · refine ⟨fun a t h => ?_, fun t h => ?_⟩ <;>
        rw [returnFromException_apply hb hm, aluWritePC_apply] at h <;> split at h
      · next ht =>
        cases h
        exact (Upd.restore s b _ hb hm (by rw [show psrT (s.spsr.get b) = true from ht]
                                           exact alignedFor_clearBit0 v)).one
      · next ht =>
        split at h
        · next h0 =>
          cases h
          exact (Upd.restore s b v hb hm (by
            have ht : psrT (s.spsr.get b) = false := by simpa using ht
            simpa [alignedFor, ht] using h0)).one
        · cases h
      · cases h
      · split at h <;> cases h
    · have he : returnFromException v s = .error (.refused (.unsupported .malformedMode)) := by
        simp [returnFromException, restoreCpsr, act_bind, currentBank_some hb, writeCpsr_apply, hm]
      refine ⟨fun a t h => ?_, fun t h => ?_⟩ <;> rw [he] at h <;> cases h

theorem does_currentBank : Does A currentBank := fun s => by
  rcases hb : s.mode.bank with _ | b
  · refine ⟨fun a t h => ?_, fun t h => ?_⟩ <;> rw [currentBank_none hb] at h <;> cases h
  · refine ⟨fun a t h => ?_, fun t h => ?_⟩ <;> rw [currentBank_some hb] at h <;> cases h
    exact .refl

/-! ## Memory -/

theorem does_translateVa (va : Word) (n : AccSize) (f p r : Bool) : Does A (translateVa va n f p r) := fun s => by
  refine ⟨fun a t h => ?_, fun t h => ?_⟩ <;> rw [translateVa_apply] at h <;> split at h
  · cases h
  · split at h
    · cases h; exact .refl
    · rw [mmuFault, raise_apply] at h; split at h <;> cases h
    · cases h
  · cases h
  · split at h
    · cases h
    · next st dom _ =>
      rw [mmuFault, raise_apply] at h
      split at h
      · next hp =>
        cases h
        exact (Upd.fault s va st dom).one.tail (Upd.request _ _ _ hp)
      · cases h
    · cases h

theorem does_probe (ok : State → Bool) (k : ExcKind) (why : Reason) : Does A (probe ok k why) := fun s => by
  by_cases h : ok s = true
  · exact ⟨fun a t e => by simp [probe, h] at e; rw [e], fun t e => by
      simp [probe, h] at e⟩
  · have he : probe ok k why s = raise k why s := by simp [probe, h]
    unfold DoesAt
    rw [he]
    exact does_raise k why s

theorem does_memRead (va : Word) (n : AccSize) (p : Bool) : Does A (memRead va n p) :=
  (does_translateVa va n _ p _).bind fun _ => (does_probe _ _ _).bind fun _ => does_look _

theorem does_memWrite (va : Word) (n : AccSize) (v : Word) (p : Bool) : Does A (memWrite va n v p) :=
  (does_translateVa va n _ p _).bind fun _ => (does_probe _ _ _).bind fun _ s => doesAt_change (Upd.store s n _ v).one

theorem does_loadList (p : Bool) (rs : List RegNum) (a : Word) : Does A (loadList p rs a) := by
  induction rs generalizing a with
  | nil => exact does_pure _
  | cons r rs ih => exact (does_memRead _ _ _).bind fun _ => (ih _).bind fun _ => does_pure _

theorem does_storeList (value : State → RegNum → Word) (p : Bool) (rs : List RegNum) (a : Word) :
    Does A (storeList value p rs a) := by
  induction rs generalizing a with
  | nil => exact does_pure _
  | cons r rs ih => exact (does_look _).bind fun _ => (does_memWrite _ _ _ _).bind fun _ => ih _

theorem upds_setRegs (s : State) (vs : List (RegNum × Word)) : Upds A s (s.setRegs vs) := by
  induction vs generalizing s with
  | nil => exact .refl
  | cons x xs ih =>
    show Upds A s ((if x.1 = 15#4 then s else s.setReg x.1 x.2).setRegs xs)
    split
    · exact ih s
    · exact (Upd.reg s _ _).one.trans (ih _)

theorem upds_setUserRegs (s : State) (vs : List (RegNum × Word)) : Upds A s (s.setUserRegs vs) := by
  induction vs generalizing s with
  | nil => exact .refl
  | cons x xs ih =>
    show Upds A s ((s.setUserReg x.1 x.2).setUserRegs xs)
    exact (Upd.userReg s _ _).one.trans (ih _)

theorem does_setRegs (vs : List (RegNum × Word)) : Does A (change fun s => s.setRegs vs) :=
  fun s => doesAt_change (upds_setRegs s vs)

theorem does_setUserRegs (vs : List (RegNum × Word)) : Does A (change fun s => s.setUserRegs vs) :=
  fun s => doesAt_change (upds_setUserRegs s vs)

theorem does_writeLoadedPc (v : Option Word) : Does A (writeLoadedPc v) := by
  cases v
  · exact does_pure ()
  · exact does_bxWritePC _

end Sys2Proof.Machine
end

