-- ==== Sys2Proof/Laws/ExecUpdates.lean ====
section
/-! SUPPORT. Every next state of exec is reached by the elementary updates of Laws/Updates.lean. -/

namespace Sys2Proof.Machine

variable {A : Prop}

theorem upds_of_runAct {m : Act Unit} {s t : State} (h : DoesAt A m s) (hn : runAct m s = .next t) : Upds A s t := by
  rcases runAct_next.1 hn with e | e
  · exact h.1 _ _ e
  · exact h.2 _ e

theorem does_arithFlags (o : AluOut) : Does A (setCpsrFlags fun p => arithFlags p o) :=
  setCpsrFlags_does fun p j h => getLsbD_arithFlags_low p o j h
theorem does_logicFlags (r : Word) (c : Bool) : Does A (setCpsrFlags fun p => logicFlags p r c) :=
  setCpsrFlags_does fun p j h => getLsbD_logicFlags_low p r c j h
theorem does_nzFlags (r : Word) : Does A (setCpsrFlags fun p => nzFlags p r) :=
  setCpsrFlags_does fun p j h => getLsbD_nzFlags_low p r j h
theorem does_nzFlags64 (r : DWord) : Does A (setCpsrFlags fun p => nzFlags64 p r) :=
  setCpsrFlags_does fun p j h => getLsbD_nzFlags64_low p r j h
theorem does_copyFlags (v : Word) : Does A (setCpsrFlags (copyFlags v)) :=
  setCpsrFlags_does fun p j h => getLsbD_copyFlags_low v p j h
theorem does_dpFlags (op : DpOp) (o : AluOut) : Does A (setCpsrFlags (op.flags o)) :=
  setCpsrFlags_does fun p j h => getLsbD_dpFlags_low op o p j h

/-! ## Data processing and multiplies -/

theorem does_dataProcessing (op : DpOp) (sf : Bool) (rn rd : RegNum) (op2 : Operand2) :
    Does A (dataProcessing op sf rn rd op2) := by
  refine (does_unpredictableIf _ _).bind fun _ => (does_look _).bind fun o => ?_
  refine does_ite (does_ite (does_returnFromException _) (does_aluWritePC _)) ?_
  exact (does_writeReg _ _).bind fun _ => does_ite (does_dpFlags _ _) (does_pure _)

theorem does_dataTest (op : DpOp) (rn : RegNum) (op2 : Operand2) : Does A (dataTest op rn op2) :=
  (does_unpredictableIf _ _).bind fun _ => (does_look _).bind fun o => does_dpFlags _ o

theorem does_writeProduct (sf : Bool) (rd : RegNum) (r : Word) : Does A (writeProduct sf rd r) :=
  (does_writeReg _ _).bind fun _ => does_ite (does_nzFlags _) (does_pure _)

theorem does_longMultiply (f : Word → Word → DWord) (acc sf : Bool) (rdHi rdLo rs rm : RegNum) :
    Does A (longMultiply f acc sf rdHi rdLo rs rm) :=
  (does_unpredictableIf _ _).bind fun _ => (does_look _).bind fun _ => (does_writeReg _ _).bind fun _ =>
    (does_writeReg _ _).bind fun _ => does_ite (does_nzFlags64 _) (does_pure _)

theorem does_dsp (sb : BitVec 4) : Does A (do shouldBe (sb == 0#4); stopUnsupported .dspInstruction : Act Unit) :=
  (does_shouldBe _).bind fun _ => does_stopUnsupported _

/-! ## Loads and stores -/

theorem does_mode2 (u : Bool) (ix : Indexing) (rn rd : RegNum) (off : Offset2) (b : Bool) :
    Does A (mode2 u ix rn rd off b) :=
  (does_unpredictableIf _ _).bind fun _ => (does_unpredictableIf _ _).bind fun _ => does_look _

theorem does_mode3Checked (p u w : Bool) (rn rd : RegNum) (off : Offset3) (b : Bool) :
    Does A (mode3Checked p u w rn rd off b) :=
  (does_unpredictableIf _ _).bind fun _ => (does_unpredictableIf _ _).bind fun _ => does_look _

theorem does_mode3 (p u w : Bool) (rn rd : RegNum) (off : Offset3) (b : Bool) : Does A (mode3 p u w rn rd off b) :=
  (does_shouldBe _).bind fun _ => does_mode3Checked _ _ _ _ _ _ _

theorem does_mode3Pair (p u w : Bool) (rn rd : RegNum) (off : Offset3) (b : Bool) :
    Does A (mode3Pair p u w rn rd off b) :=
  (does_shouldBe _).bind fun _ => (does_unpredictableIf _ _).bind fun _ => does_mode3Checked _ _ _ _ _ _ _

theorem does_loadWord (a : Word) (user : Bool) : Does A (loadWord a user) :=
  (does_look _).bind fun _ => (does_memRead _ _ _).bind fun _ => does_pure _

theorem does_loadByte (a : Word) (user : Bool) : Does A (loadByte a user) :=
  (does_look _).bind fun _ => does_memRead _ _ _

theorem does_halfwordCheck (a : Word) : Does A (halfwordCheck a) := fun s => does_unpredictableIf _ _ s

theorem does_doublewordCheck (a : Word) : Does A (doublewordCheck a) := fun s => does_unpredictableIf _ _ s

theorem does_loadHalf (a : Word) : Does A (loadHalf a) :=
  (does_halfwordCheck a).bind fun _ => (does_look _).bind fun _ => does_memRead _ _ _

theorem does_storeReg (rd : RegNum) (n : AccSize) (a : Word) (user : Bool) : Does A (storeReg rd n a user) :=
  (does_look _).bind fun _ => (does_readReg _).bind fun _ => does_memWrite _ _ _ _

theorem does_storeHalf (rd : RegNum) (a : Word) : Does A (storeHalf rd a) :=
  (does_halfwordCheck a).bind fun _ => does_storeReg _ _ _ _

theorem does_loadWord2 (user u : Bool) (ix : Indexing) (rn rd : RegNum) (off : Offset2) :
    Does A (loadWord2 user u ix rn rd off) :=
  (does_mode2 _ _ _ _ _ _).bind fun _ => (does_loadWord _ _).bind fun _ => (does_writeBackBase _ _).bind fun _ =>
    does_ite ((does_unpredictableIf _ _).bind fun _ => does_bxWritePC _) (does_writeReg _ _)

theorem does_loadByte2 (user u : Bool) (ix : Indexing) (rn rd : RegNum) (off : Offset2) :
    Does A (loadByte2 user u ix rn rd off) :=
  (does_mode2 _ _ _ _ _ _).bind fun _ => (does_loadByte _ _).bind fun _ => (does_writeBackBase _ _).bind fun _ =>
    does_writeReg _ _

theorem does_storeWord2 (user u : Bool) (ix : Indexing) (rn rd : RegNum) (off : Offset2) :
    Does A (storeWord2 user u ix rn rd off) :=
  (does_mode2 _ _ _ _ _ _).bind fun _ => (does_storeReg _ _ _ _).bind fun _ => does_writeBackBase _ _

theorem does_storeByte2 (user u : Bool) (ix : Indexing) (rn rd : RegNum) (off : Offset2) :
    Does A (storeByte2 user u ix rn rd off) :=
  (does_mode2 _ _ _ _ _ _).bind fun _ => (does_storeReg _ _ _ _).bind fun _ => does_writeBackBase _ _

theorem does_store (n : AccSize) (pa v : Word) : Does A (change fun s => s.store n (n.align pa) v) :=
  fun s => doesAt_change (Upd.store s n pa v).one

theorem does_swap (n : AccSize) (f : Word → Word → Word) (rn rd : RegNum) (sb : BitVec 4) (rm : RegNum) :
    Does A (swap n f rn rd sb rm) :=
  (does_shouldBe _).bind fun _ => (does_unpredictableIf _ _).bind fun _ => (does_readReg _).bind fun _ =>
    (does_readReg _).bind fun _ => (does_look _).bind fun _ => (does_translateVa _ _ _ _ _).bind fun _ =>
    (does_translateVa _ _ _ _ _).bind fun _ => (does_probe _ _ _).bind fun _ => (does_look _).bind fun _ =>
    (does_store _ _ _).bind fun _ => does_writeReg _ _

theorem does_thumbLoadWord (rd : LowReg) (a : Word) : Does A (thumbLoadWord rd a) :=
  (does_loadWord _ _).bind fun _ => does_writeReg _ _
theorem does_thumbLoadByte (rd : LowReg) (a : Word) : Does A (thumbLoadByte rd a) :=
  (does_loadByte _ _).bind fun _ => does_writeReg _ _
theorem does_thumbLoadHalf (rd : LowReg) (a : Word) : Does A (thumbLoadHalf rd a) :=
  (does_loadHalf _).bind fun _ => does_writeReg _ _

/-! ## Thumb results -/

theorem does_thumbArith (rd : LowReg) (o : AluOut) : Does A (thumbArith rd o) :=
  (does_writeReg _ _).bind fun _ => does_arithFlags _
theorem does_thumbShifted (rd : LowReg) (sh : Shifted) : Does A (thumbShifted rd sh) :=
  (does_writeReg _ _).bind fun _ => does_logicFlags _ _
theorem does_thumbLogic (rd : LowReg) (r : Word) : Does A (thumbLogic rd r) :=
  (does_writeReg _ _).bind fun _ => does_nzFlags _
theorem does_thumbShiftImm (k : ShiftKind) (n : BitVec 5) (rm rd : LowReg) : Does A (thumbShiftImm k n rm rd) :=
  (does_look _).bind fun _ => does_thumbShifted _ _
theorem does_thumbShiftReg (k : ShiftKind) (rm rd : LowReg) : Does A (thumbShiftReg k rm rd) :=
  (does_look _).bind fun _ => does_thumbShifted _ _
theorem does_writeHi (rd : RegNum) (v : Word) : Does A (writeHi rd v) :=
  does_ite (does_aluWritePC _) (does_writeReg _ _)

/-! ## Status registers and coprocessors -/

theorem byteMask_low {mask : BitVec 4} {j : Nat} (h : j < 24) :
    (byteMask mask &&& 0xFF000000#32).getLsbD j = false := by
  have : (0xFF000000#32).getLsbD j = false := by
    have hd : ∀ k, k < 24 → (0xFF000000#32).getLsbD k = false := by decide
    exact hd j h
  simp [this]

theorem getLsbD_mergeBytes (old new mask : Word) (j : Nat) :
    (mergeBytes old new mask).getLsbD j = if mask.getLsbD j then new.getLsbD j else old.getLsbD j := by
  unfold mergeBytes
  by_cases hj : j < 32
  · simp only [BitVec.getLsbD_or, BitVec.getLsbD_and, BitVec.getLsbD_not, hj, decide_true, Bool.true_and]
    cases mask.getLsbD j <;> simp
  · simp [BitVec.getLsbD_of_ge _ j (Nat.le_of_not_lt hj)]

theorem does_msrWrite (r : Bool) (mask : BitVec 4) (v : Word) : Does A (msrWrite r mask v) := by
  cases r
  · intro s
    by_cases hm : (Mode.ofBits (psrM (mergeBytes s.cpsr v (s.cpsrMask mask)))).isSome = true <;>
      by_cases ht : psrT (mergeBytes s.cpsr v (s.cpsrMask mask)) = psrT s.cpsr <;>
      refine ⟨fun a t h => ?_, fun t h => ?_⟩ <;>
      simp [msrWrite, act_bind, unpredictableIf_apply, writeCpsr_apply, hm, ht] at h
    rw [← h]
    refine (Upd.status s _ ht hm fun hp j hj => ?_).one
    rw [getLsbD_mergeBytes]
    simp [State.cpsrMask, hp, byteMask_low hj]
  · refine fun s => DoesAt.guard (fun a t h => ?_) (fun t h => ?_) fun b hb => ?_
    · unfold currentBank at h
      split at h <;> cases h
      rfl
    · unfold currentBank at h
      split at h <;> cases h
    · refine doesAt_change (Upd.saved s b _ ?_).one
      unfold currentBank at hb
      split at hb <;> cases hb
      assumption

theorem does_coprocessorAccess (cp : BitVec 4) : Does A (coprocessorAccess cp) := fun s => by
  by_cases h : cp = 15#4
  · by_cases hp : s.privileged = true
    · refine ⟨fun a t e => ?_, fun t e => ?_⟩ <;> simp [coprocessorAccess, h, hp] at e
      rw [e]
    · have he : coprocessorAccess cp s = raise .undefinedInstruction .cp15InUserMode s := by
        simp [coprocessorAccess, h, hp]
      unfold DoesAt
      rw [he]
      exact does_raise _ _ s
  · rcases ha : s.absentCp with _ | _
    · refine ⟨fun a t e => ?_, fun t e => ?_⟩ <;> simp [coprocessorAccess, h, ha] at e
    · have he : coprocessorAccess cp s = raise .undefinedInstruction .absentCoprocessor s := by
        simp [coprocessorAccess, h, ha]
      unfold DoesAt
      rw [he]
      exact does_raise _ _ s

theorem coprocessorAccess_inv {cp : BitVec 4} {s t : State} {u : Unit} (h : coprocessorAccess cp s = .ok (u, t)) :
    t = s ∧ cp = 15#4 ∧ s.privileged = true := by
  unfold coprocessorAccess at h
  split at h
  · split at h
    · cases h; exact ⟨rfl, by assumption, by assumption⟩
    · rw [raise_apply] at h; split at h <;> cases h
  · split at h
    · cases h
    · rw [raise_apply] at h; split at h <;> cases h

theorem does_refuseToCp15 (cp : BitVec 4) : Does A (refuseToCp15 cp) :=
  (does_coprocessorAccess cp).bind fun _ => does_stopUnsupported _

theorem does_cp15Read (id : BitVec 16) : Does A (cp15Read id) := by
  unfold cp15Read
  split <;> first | exact does_look _ | exact does_stopUnsupported _

theorem doesAt_cp15Write (id : BitVec 16) (v : Word) {s : State} (hp : s.privileged = true) :
    DoesAt A (cp15Write id v) s := by
  unfold cp15Write
  split
  · exact does_stopUnsupported _ s
  · exact does_pure _ s
  · exact does_pure _ s
  · split
    · exact does_stopUnsupported _ s
    · split
      · exact does_stopUnsupported _ s
      · exact doesAt_change (Upd.control s v hp).one
  · exact doesAt_change (Upd.ttb s v hp).one
  · exact doesAt_change (Upd.dacr s v hp).one
  · exact doesAt_change (Upd.fsr s v hp).one
  · exact doesAt_change (Upd.far s v hp).one
  · exact doesAt_change (Upd.wait s hp).one
  · exact does_pure _ s
  · exact does_stopUnsupported _ s
  · exact does_pure _ s
  · split
    · exact does_pure _ s
    · exact does_stopUnsupported _ s

/-! ## Branch targets -/

theorem alignedFor_add_false {a b : Word} (ha : alignedFor false a) (hb : alignedFor false b) :
    alignedFor false (a + b) := by
  simp only [alignedFor, Bool.false_eq_true, if_false] at *
  rw [← BitVec.toNat_inj] at *
  simp only [BitVec.extractLsb'_toNat, BitVec.toNat_add, BitVec.toNat_ofNat, Nat.shiftRight_zero] at *
  omega

theorem alignedFor_add_true {a b : Word} (ha : alignedFor true a) (hb : alignedFor true b) :
    alignedFor true (a + b) := by
  have h : ∀ x : Word, alignedFor true x ↔ x.toNat % 2 = 0 := by
    intro x
    simp only [alignedFor, if_true, BitVec.getLsbD, Nat.testBit_zero, decide_eq_false_iff_not]
    omega
  rw [h] at *
  simp only [BitVec.toNat_add]
  omega

theorem alignedFor_true_of_false {a : Word} (h : alignedFor false a) : alignedFor true a := by
  simp only [alignedFor, Bool.false_eq_true, if_false, if_true] at *
  have := congrArg (fun x => x.getLsbD 0) h
  simpa [BitVec.getLsbD_extractLsb'] using this

theorem alignedFor_shiftLeft_two (a : Word) : alignedFor false (a <<< 2) := by
  refine alignedFor_of_bits ?_ ?_ <;> simp

theorem alignedFor_shiftLeft_one (a : Word) : alignedFor true (a <<< 1) := by simp [alignedFor]

theorem alignedFor_clearBits (a : Word) : alignedFor false (a &&& 0xFFFFFFFC#32) := by
  refine alignedFor_of_bits ?_ ?_ <;> simp

/-- An ARM target keeps the alignment of either instruction set (R600). -/
theorem alignedFor_armTarget {s : State} (imm24 : BitVec 24) (h : s.pcAligned) :
    alignedFor (psrT s.cpsr) (s.armTarget imm24) := by
  rw [State.pcAligned_iff] at h
  unfold State.armTarget
  cases ht : psrT s.cpsr <;> rw [ht] at h
  · exact alignedFor_add_false (alignedFor_add_false h (by unfold alignedFor; decide)) (alignedFor_shiftLeft_two _)
  · exact alignedFor_add_true (alignedFor_add_true h (by unfold alignedFor; decide))
      (alignedFor_true_of_false (alignedFor_shiftLeft_two _))

theorem alignedFor_true_of_pcAligned {s : State} (h : s.pcAligned) : alignedFor true s.pc := by
  rw [State.pcAligned_iff] at h
  cases ht : psrT s.cpsr <;> rw [ht] at h
  · exact alignedFor_true_of_false h
  · exact h

/-- A Thumb target is halfword aligned (R820, R822, R851). -/
theorem alignedFor_thumbTarget {s : State} (v : Word) (h : s.pcAligned) :
    alignedFor true (s.pc + 4#32 + v <<< 1) :=
  alignedFor_add_true (alignedFor_add_true (alignedFor_true_of_pcAligned h) (by unfold alignedFor; decide)) (alignedFor_shiftLeft_one _)

/-! ## The instructions -/

theorem does_returnLoaded (vs : List (RegNum × Word)) :
    Does A (match loadedPc vs with | some v => returnFromException v | none => pure ()) := by
  split
  · exact does_returnFromException _
  · exact does_pure _

/-- A change of instruction set and a jump, as one update (R603, R852). -/
theorem doesAt_setTJump {t : Bool} {v : Word} {s : State} (h : Upd A s ({ s with cpsr := withT s.cpsr t }.jump v)) :
    DoesAt A (do change fun s => { s with cpsr := withT s.cpsr t }; branchWritePC v : Act Unit) s :=
  ⟨fun _ _ e => by cases e; exact h.one, fun _ e => by cases e⟩

theorem upds_of_does {m : Act Unit} {s t : State} (hn : runAct m s = .next t) (h : Does A m) : Upds A s t :=
  upds_of_runAct (h s) hn

/-- A branch was executed at an aligned PC, a Thumb instruction in Thumb state. -/
def atHome (i : Instr) (s : State) : Prop := s.pcAligned ∧ ((encode i).isThumb = true → psrT s.cpsr = true)

/-- Everything an instruction can do. -/
theorem exec_upds {i : Instr} {s t : State} (h : exec i s = .next t) : Upds (atHome i s) s t := by
  generalize hA : atHome i s = A
  cases i with
  | armAnd _ _ _ _ _ =>
    dsimp only [exec] at h
    unfold execArmAnd at h
    refine upds_of_does h ?_
    exact does_whenPassed _ (does_dataProcessing _ _ _ _ _)
  | armEor _ _ _ _ _ =>
    dsimp only [exec] at h
    unfold execArmEor at h
    refine upds_of_does h ?_
    exact does_whenPassed _ (does_dataProcessing _ _ _ _ _)
  | armSub _ _ _ _ _ =>
    dsimp only [exec] at h
    unfold execArmSub at h
    refine upds_of_does h ?_
    exact does_whenPassed _ (does_dataProcessing _ _ _ _ _)
  | armRsb _ _ _ _ _ =>
    dsimp only [exec] at h
    unfold execArmRsb at h
    refine upds_of_does h ?_
    exact does_whenPassed _ (does_dataProcessing _ _ _ _ _)
  | armAdd _ _ _ _ _ =>
    dsimp only [exec] at h
    unfold execArmAdd at h
    refine upds_of_does h ?_
    exact does_whenPassed _ (does_dataProcessing _ _ _ _ _)
  | armAdc _ _ _ _ _ =>
    dsimp only [exec] at h
    unfold execArmAdc at h
    refine upds_of_does h ?_
    exact does_whenPassed _ (does_dataProcessing _ _ _ _ _)
  | armSbc _ _ _ _ _ =>
    dsimp only [exec] at h
    unfold execArmSbc at h
    refine upds_of_does h ?_
    exact does_whenPassed _ (does_dataProcessing _ _ _ _ _)
  | armRsc _ _ _ _ _ =>
    dsimp only [exec] at h
    unfold execArmRsc at h
    refine upds_of_does h ?_
    exact does_whenPassed _ (does_dataProcessing _ _ _ _ _)
  | armTst _ _ _ _ =>
    dsimp only [exec] at h
    unfold execArmTst at h
    refine upds_of_does h ?_
    exact does_whenPassed _ ((does_shouldBe _).bind fun _ => does_dataTest _ _ _)
  | armTeq _ _ _ _ =>
    dsimp only [exec] at h
    unfold execArmTeq at h
    refine upds_of_does h ?_
    exact does_whenPassed _ ((does_shouldBe _).bind fun _ => does_dataTest _ _ _)
  | armCmp _ _ _ _ =>
    dsimp only [exec] at h
    unfold execArmCmp at h
    refine upds_of_does h ?_
    exact does_whenPassed _ ((does_shouldBe _).bind fun _ => does_dataTest _ _ _)
  | armCmn _ _ _ _ =>
    dsimp only [exec] at h
    unfold execArmCmn at h
    refine upds_of_does h ?_
    exact does_whenPassed _ ((does_shouldBe _).bind fun _ => does_dataTest _ _ _)
  | armOrr _ _ _ _ _ =>
    dsimp only [exec] at h
    unfold execArmOrr at h
    refine upds_of_does h ?_
    exact does_whenPassed _ (does_dataProcessing _ _ _ _ _)
  | armMov _ _ _ _ _ =>
    dsimp only [exec] at h
    unfold execArmMov at h
    refine upds_of_does h ?_
    exact does_whenPassed _ ((does_shouldBe _).bind fun _ => does_dataProcessing _ _ _ _ _)
  | armBic _ _ _ _ _ =>
    dsimp only [exec] at h
    unfold execArmBic at h
    refine upds_of_does h ?_
    exact does_whenPassed _ (does_dataProcessing _ _ _ _ _)
  | armMvn _ _ _ _ _ =>
    dsimp only [exec] at h
    unfold execArmMvn at h
    refine upds_of_does h ?_
    exact does_whenPassed _ ((does_shouldBe _).bind fun _ => does_dataProcessing _ _ _ _ _)
  | armMul _ _ _ _ _ _ =>
    dsimp only [exec] at h
    unfold execArmMul at h
    refine upds_of_does h ?_
    exact does_whenPassed _ ((does_shouldBe _).bind fun _ => (does_unpredictableIf _ _).bind fun _ => (does_look _).bind fun _ => does_writeProduct _ _ _)
  | armMla _ _ _ _ _ _ =>
    dsimp only [exec] at h
    unfold execArmMla at h
    refine upds_of_does h ?_
    exact does_whenPassed _ ((does_unpredictableIf _ _).bind fun _ => (does_look _).bind fun _ => does_writeProduct _ _ _)
  | armUmull _ _ _ _ _ _ =>
    dsimp only [exec] at h
    unfold execArmUmull at h
    refine upds_of_does h ?_
    exact does_whenPassed _ (does_longMultiply _ _ _ _ _ _ _)
  | armUmlal _ _ _ _ _ _ =>
    dsimp only [exec] at h
    unfold execArmUmlal at h
    refine upds_of_does h ?_
    exact does_whenPassed _ (does_longMultiply _ _ _ _ _ _ _)
  | armSmull _ _ _ _ _ _ =>
    dsimp only [exec] at h
    unfold execArmSmull at h
    refine upds_of_does h ?_
    exact does_whenPassed _ (does_longMultiply _ _ _ _ _ _ _)
  | armSmlal _ _ _ _ _ _ =>
    dsimp only [exec] at h
    unfold execArmSmlal at h
    refine upds_of_does h ?_
    exact does_whenPassed _ (does_longMultiply _ _ _ _ _ _ _)
  | armSmlaxy _ _ _ _ _ _ _ =>
    dsimp only [exec] at h
    unfold execArmSmlaxy refuseDsp at h
    refine upds_of_does h ?_
    exact does_whenPassed _ (does_dsp _)
  | armSmlawy _ _ _ _ _ _ =>
    dsimp only [exec] at h
    unfold execArmSmlawy refuseDsp at h
    refine upds_of_does h ?_
    exact does_whenPassed _ (does_dsp _)
  | armSmulwy _ _ _ _ _ _ =>
    dsimp only [exec] at h
    unfold execArmSmulwy refuseDsp at h
    refine upds_of_does h ?_
    exact does_whenPassed _ (does_dsp _)
  | armSmlalxy _ _ _ _ _ _ _ =>
    dsimp only [exec] at h
    unfold execArmSmlalxy refuseDsp at h
    refine upds_of_does h ?_
    exact does_whenPassed _ (does_dsp _)
  | armSmulxy _ _ _ _ _ _ _ =>
    dsimp only [exec] at h
    unfold execArmSmulxy refuseDsp at h
    refine upds_of_does h ?_
    exact does_whenPassed _ (does_dsp _)
  | armQadd _ _ _ _ _ =>
    dsimp only [exec] at h
    unfold execArmQadd refuseDsp at h
    refine upds_of_does h ?_
    exact does_whenPassed _ (does_dsp _)
  | armQsub _ _ _ _ _ =>
    dsimp only [exec] at h
    unfold execArmQsub refuseDsp at h
    refine upds_of_does h ?_
    exact does_whenPassed _ (does_dsp _)
  | armQdadd _ _ _ _ _ =>
    dsimp only [exec] at h
    unfold execArmQdadd refuseDsp at h
    refine upds_of_does h ?_
    exact does_whenPassed _ (does_dsp _)
  | armQdsub _ _ _ _ _ =>
    dsimp only [exec] at h
    unfold execArmQdsub refuseDsp at h
    refine upds_of_does h ?_
    exact does_whenPassed _ (does_dsp _)
  | armLdr _ _ _ _ _ _ =>
    dsimp only [exec] at h
    unfold execArmLdr at h
    refine upds_of_does h ?_
    exact does_whenPassed _ (does_loadWord2 _ _ _ _ _ _)
  | armStr _ _ _ _ _ _ =>
    dsimp only [exec] at h
    unfold execArmStr at h
    refine upds_of_does h ?_
    exact does_whenPassed _ (does_storeWord2 _ _ _ _ _ _)
  | armLdrb _ _ _ _ _ _ =>
    dsimp only [exec] at h
    unfold execArmLdrb at h
    refine upds_of_does h ?_
    exact does_whenPassed _ (does_loadByte2 _ _ _ _ _ _)
  | armStrb _ _ _ _ _ _ =>
    dsimp only [exec] at h
    unfold execArmStrb at h
    refine upds_of_does h ?_
    exact does_whenPassed _ (does_storeByte2 _ _ _ _ _ _)
  | armLdrt _ _ _ _ _ =>
    dsimp only [exec] at h
    unfold execArmLdrt at h
    refine upds_of_does h ?_
    exact does_whenPassed _ (does_loadWord2 _ _ _ _ _ _)
  | armStrt _ _ _ _ _ =>
    dsimp only [exec] at h
    unfold execArmStrt at h
    refine upds_of_does h ?_
    exact does_whenPassed _ (does_storeWord2 _ _ _ _ _ _)
  | armLdrbt _ _ _ _ _ =>
    dsimp only [exec] at h
    unfold execArmLdrbt at h
    refine upds_of_does h ?_
    exact does_whenPassed _ (does_loadByte2 _ _ _ _ _ _)
  | armStrbt _ _ _ _ _ =>
    dsimp only [exec] at h
    unfold execArmStrbt at h
    refine upds_of_does h ?_
    exact does_whenPassed _ (does_storeByte2 _ _ _ _ _ _)
  | armLdrh _ _ _ _ _ _ _ =>
    dsimp only [exec] at h
    unfold execArmLdrh at h
    refine upds_of_does h ?_
    exact does_whenPassed _ ((does_mode3 _ _ _ _ _ _ _).bind fun _ => (does_loadHalf _).bind fun _ => (does_writeBackBase _ _).bind fun _ => does_writeReg _ _)
  | armStrh _ _ _ _ _ _ _ =>
    dsimp only [exec] at h
    unfold execArmStrh at h
    refine upds_of_does h ?_
    exact does_whenPassed _ ((does_mode3 _ _ _ _ _ _ _).bind fun _ => (does_storeHalf _ _).bind fun _ => does_writeBackBase _ _)
  | armLdrsb _ _ _ _ _ _ _ =>
    dsimp only [exec] at h
    unfold execArmLdrsb at h
    refine upds_of_does h ?_
    exact does_whenPassed _ ((does_mode3 _ _ _ _ _ _ _).bind fun _ => (does_loadByte _ _).bind fun _ => (does_writeBackBase _ _).bind fun _ => does_writeReg _ _)
  | armLdrsh _ _ _ _ _ _ _ =>
    dsimp only [exec] at h
    unfold execArmLdrsh at h
    refine upds_of_does h ?_
    exact does_whenPassed _ ((does_mode3 _ _ _ _ _ _ _).bind fun _ => (does_loadHalf _).bind fun _ => (does_writeBackBase _ _).bind fun _ => does_writeReg _ _)
  | armLdrd _ _ _ _ _ _ _ =>
    dsimp only [exec] at h
    unfold execArmLdrd at h
    refine upds_of_does h ?_
    exact does_whenPassed _ ((does_mode3Pair _ _ _ _ _ _ _).bind fun _ => (does_doublewordCheck _).bind fun _ => (does_look _).bind fun _ => (does_memRead _ _ _).bind fun _ => (does_memRead _ _ _).bind fun _ => (does_writeBackBase _ _).bind fun _ => (does_writeReg _ _).bind fun _ => does_writeReg _ _)
  | armStrd _ _ _ _ _ _ _ =>
    dsimp only [exec] at h
    unfold execArmStrd at h
    refine upds_of_does h ?_
    exact does_whenPassed _ ((does_mode3Pair _ _ _ _ _ _ _).bind fun _ => (does_doublewordCheck _).bind fun _ => (does_storeReg _ _ _ _).bind fun _ => (does_storeReg _ _ _ _).bind fun _ => does_writeBackBase _ _)
  | armSwp _ _ _ _ _ =>
    dsimp only [exec] at h
    unfold execArmSwp at h
    refine upds_of_does h ?_
    exact does_whenPassed _ (does_swap _ _ _ _ _ _)
  | armSwpb _ _ _ _ _ =>
    dsimp only [exec] at h
    unfold execArmSwpb at h
    refine upds_of_does h ?_
    exact does_whenPassed _ (does_swap _ _ _ _ _ _)
  | armPldImm _ _ _ _ =>
    dsimp only [exec] at h
    unfold execArmPldImm at h
    refine upds_of_does h ?_
    exact does_shouldBe _
  | armPldReg _ _ _ _ _ _ =>
    dsimp only [exec] at h
    unfold execArmPldReg at h
    refine upds_of_does h ?_
    exact does_shouldBe _
  | armLdm1 _ _ _ _ _ _ =>
    dsimp only [exec] at h
    unfold execArmLdm1 at h
    refine upds_of_does h ?_
    exact does_whenPassed _ ((does_unpredictableIf _ _).bind fun _ => (does_readReg _).bind fun _ => (does_look _).bind fun _ => (does_loadList _ _ _).bind fun _ => (does_writeBackBase _ _).bind fun _ => (does_setRegs _).bind fun _ => does_writeLoadedPc _)
  | armLdm2 _ _ _ _ _ _ =>
    dsimp only [exec] at h
    unfold execArmLdm2 at h
    refine upds_of_does h ?_
    exact does_whenPassed _ ((does_unpredictableIf _ _).bind fun _ => (does_unpredictableIf _ _).bind fun _ => (does_readReg _).bind fun _ => (does_look _).bind fun _ => (does_loadList _ _ _).bind fun _ => does_setUserRegs _)
  | armLdm3 _ _ _ _ _ _ =>
    dsimp only [exec] at h
    unfold execArmLdm3 at h
    refine upds_of_does h ?_
    exact does_whenPassed _ (does_currentBank.bind fun _ => (does_unpredictableIf _ _).bind fun _ => (does_readReg _).bind fun _ => (does_look _).bind fun _ => (does_loadList _ _ _).bind fun _ => (does_writeBackBase _ _).bind fun _ => (does_setRegs _).bind fun _ => does_returnLoaded _)
  | armStm1 _ _ _ _ _ _ =>
    dsimp only [exec] at h
    unfold execArmStm1 at h
    refine upds_of_does h ?_
    exact does_whenPassed _ ((does_unpredictableIf _ _).bind fun _ => (does_readReg _).bind fun _ => (does_look _).bind fun _ => (does_storeList _ _ _ _).bind fun _ => does_writeBackBase _ _)
  | armStm2 _ _ _ _ _ _ =>
    dsimp only [exec] at h
    unfold execArmStm2 at h
    refine upds_of_does h ?_
    exact does_whenPassed _ ((does_unpredictableIf _ _).bind fun _ => (does_unpredictableIf _ _).bind fun _ => (does_readReg _).bind fun _ => (does_look _).bind fun _ => does_storeList _ _ _ _)
  | armB c imm24 =>
    refine upds_of_runAct (doesAt_whenPassed fun _ => (does_look _ s).bind fun v u e => ?_) h
    cases e
    refine doesAt_change (Upd.jump s _ fun ha => ?_).one
    exact alignedFor_armTarget imm24 (hA.symm ▸ ha : atHome _ s).1
  | armBl c imm24 =>
    refine upds_of_runAct (doesAt_whenPassed fun _ => (does_look _ s).bind fun v u e => ?_) h
    cases e
    refine (does_look _ s).bind fun l u e => ?_
    cases e
    refine (does_writeReg _ _ s).bind fun _ u e => ?_
    cases e
    refine doesAt_change (Upd.jump _ _ fun ha => ?_).one
    simpa using alignedFor_armTarget imm24 (hA.symm ▸ ha : atHome _ s).1
  | armBx _ _ _ =>
    dsimp only [exec] at h
    unfold execArmBx at h
    refine upds_of_does h ?_
    exact does_whenPassed _ ((does_shouldBe _).bind fun _ => (does_readReg _).bind fun _ => does_bxWritePC _)
  | armBlxImm hb imm24 =>
    dsimp only [exec] at h
    unfold execArmBlxImm at h
    refine upds_of_runAct ?_ h
    refine (does_look _ s).bind fun v u e => ?_
    cases e
    refine (does_look _ s).bind fun l u e => ?_
    cases e
    refine (does_writeReg _ _ s).bind fun _ u e => ?_
    cases e
    refine doesAt_setTJump (Upd.exchange _ true _ fun ha => ?_)
    have ht := alignedFor_armTarget imm24 (hA.symm ▸ ha : atHome _ s).1
    refine alignedFor_add_true ?_ (by cases hb <;> (unfold alignedFor; decide))
    cases hc : psrT s.cpsr <;> rw [hc] at ht
    · exact alignedFor_true_of_false ht
    · exact ht
  | armBlxReg _ _ _ =>
    dsimp only [exec] at h
    unfold execArmBlxReg at h
    refine upds_of_does h ?_
    exact does_whenPassed _ ((does_shouldBe _).bind fun _ => (does_unpredictableIf _ _).bind fun _ => (does_readReg _).bind fun _ => (does_look _).bind fun _ => (does_writeReg _ _).bind fun _ => does_bxWritePC _)
  | armMrs _ _ _ _ _ _ =>
    dsimp only [exec] at h
    unfold execArmMrs at h
    refine upds_of_does h ?_
    exact does_whenPassed _ ((does_shouldBe _).bind fun _ => (does_unpredictableIf _ _).bind fun _ => does_ite (does_currentBank.bind fun _ => (does_look _).bind fun _ => does_writeReg _ _) ((does_look _).bind fun _ => does_writeReg _ _))
  | armMsrReg _ _ _ _ _ =>
    dsimp only [exec] at h
    unfold execArmMsrReg at h
    refine upds_of_does h ?_
    exact does_whenPassed _ ((does_shouldBe _).bind fun _ => (does_unpredictableIf _ _).bind fun _ => (does_readReg _).bind fun _ => does_msrWrite _ _ _)
  | armMsrImm _ _ _ _ _ _ =>
    dsimp only [exec] at h
    unfold execArmMsrImm at h
    refine upds_of_does h ?_
    exact does_whenPassed _ ((does_shouldBe _).bind fun _ => does_msrWrite _ _ _)
  | armClz _ _ _ _ _ =>
    dsimp only [exec] at h
    unfold execArmClz at h
    refine upds_of_does h ?_
    exact does_whenPassed _ ((does_shouldBe _).bind fun _ => (does_unpredictableIf _ _).bind fun _ => (does_readReg _).bind fun _ => does_writeReg _ _)
  | armBkpt _ _ _ =>
    dsimp only [exec] at h
    unfold execArmBkpt at h
    refine upds_of_does h ?_
    exact (does_unpredictableIf _ _).bind fun _ => does_raise _ _
  | armSwi _ _ =>
    dsimp only [exec] at h
    unfold execArmSwi at h
    refine upds_of_does h ?_
    exact does_whenPassed _ (does_raise _ _)
  | armUndefined _ =>
    dsimp only [exec] at h
    unfold execArmUndefined at h
    refine upds_of_does h ?_
    exact does_ite (does_raise _ _) (does_whenPassed _ (does_raise _ _))
  | armMcr c op1 crn rd cp op2 crm =>
    refine upds_of_runAct (doesAt_whenPassed fun _ => (does_coprocessorAccess _ s).bind fun _ u e => ?_) h
    obtain ⟨hu, _, hp⟩ := coprocessorAccess_inv e
    rw [hu]
    refine (does_unpredictableIf _ _ s).bind fun _ w e => ?_
    have hw : w = s := by rw [unpredictableIf_apply] at e; split at e <;> cases e; rfl
    rw [hw]
    refine (does_readReg _ _).bind fun _ u e => ?_
    cases e
    exact doesAt_cp15Write _ _ hp
  | armMrc _ _ _ _ _ _ _ =>
    dsimp only [exec] at h
    unfold execArmMrc at h
    refine upds_of_does h ?_
    exact does_whenPassed _ ((does_coprocessorAccess _).bind fun _ => (does_cp15Read _).bind fun _ => does_ite (does_copyFlags _) (does_writeReg _ _))
  | armCdp _ _ _ _ _ _ _ =>
    dsimp only [exec] at h
    unfold execArmCdp at h
    refine upds_of_does h ?_
    exact does_whenPassed _ (does_refuseToCp15 _)
  | armLdc _ _ _ _ _ _ _ _ _ =>
    dsimp only [exec] at h
    unfold execArmLdc at h
    refine upds_of_does h ?_
    exact does_whenPassed _ (does_refuseToCp15 _)
  | armStc _ _ _ _ _ _ _ _ _ =>
    dsimp only [exec] at h
    unfold execArmStc at h
    refine upds_of_does h ?_
    exact does_whenPassed _ (does_refuseToCp15 _)
  | armMcrr _ _ _ _ _ _ =>
    dsimp only [exec] at h
    unfold execArmMcrr at h
    refine upds_of_does h ?_
    exact does_whenPassed _ (does_refuseToCp15 _)
  | armMrrc _ _ _ _ _ _ =>
    dsimp only [exec] at h
    unfold execArmMrrc at h
    refine upds_of_does h ?_
    exact does_whenPassed _ (does_refuseToCp15 _)
  | armCdp2 _ _ _ _ _ _ =>
    dsimp only [exec] at h
    unfold execArmCdp2 at h
    refine upds_of_does h ?_
    exact does_refuseToCp15 _
  | armLdc2 _ _ _ _ _ _ _ _ =>
    dsimp only [exec] at h
    unfold execArmLdc2 at h
    refine upds_of_does h ?_
    exact does_refuseToCp15 _
  | armStc2 _ _ _ _ _ _ _ _ =>
    dsimp only [exec] at h
    unfold execArmStc2 at h
    refine upds_of_does h ?_
    exact does_refuseToCp15 _
  | armMcr2 _ _ _ _ _ _ =>
    dsimp only [exec] at h
    unfold execArmMcr2 at h
    refine upds_of_does h ?_
    exact does_refuseToCp15 _
  | armMrc2 _ _ _ _ _ _ =>
    dsimp only [exec] at h
    unfold execArmMrc2 at h
    refine upds_of_does h ?_
    exact does_refuseToCp15 _
  | thumbLslImm _ _ _ =>
    dsimp only [exec] at h
    unfold execThumbLslImm at h
    refine upds_of_does h ?_
    exact does_thumbShiftImm _ _ _ _
  | thumbLsrImm _ _ _ =>
    dsimp only [exec] at h
    unfold execThumbLsrImm at h
    refine upds_of_does h ?_
    exact does_thumbShiftImm _ _ _ _
  | thumbAsrImm _ _ _ =>
    dsimp only [exec] at h
    unfold execThumbAsrImm at h
    refine upds_of_does h ?_
    exact does_thumbShiftImm _ _ _ _
  | thumbAddReg _ _ _ =>
    dsimp only [exec] at h
    unfold execThumbAddReg at h
    refine upds_of_does h ?_
    exact (does_look _).bind fun _ => does_thumbArith _ _
  | thumbSubReg _ _ _ =>
    dsimp only [exec] at h
    unfold execThumbSubReg at h
    refine upds_of_does h ?_
    exact (does_look _).bind fun _ => does_thumbArith _ _
  | thumbAddImm3 _ _ _ =>
    dsimp only [exec] at h
    unfold execThumbAddImm3 at h
    refine upds_of_does h ?_
    exact (does_look _).bind fun _ => does_thumbArith _ _
  | thumbSubImm3 _ _ _ =>
    dsimp only [exec] at h
    unfold execThumbSubImm3 at h
    refine upds_of_does h ?_
    exact (does_look _).bind fun _ => does_thumbArith _ _
  | thumbMovImm _ _ =>
    dsimp only [exec] at h
    unfold execThumbMovImm at h
    refine upds_of_does h ?_
    exact does_thumbLogic _ _
  | thumbCmpImm _ _ =>
    dsimp only [exec] at h
    unfold execThumbCmpImm at h
    refine upds_of_does h ?_
    exact (does_look _).bind fun _ => does_arithFlags _
  | thumbAddImm8 _ _ =>
    dsimp only [exec] at h
    unfold execThumbAddImm8 at h
    refine upds_of_does h ?_
    exact (does_look _).bind fun _ => does_thumbArith _ _
  | thumbSubImm8 _ _ =>
    dsimp only [exec] at h
    unfold execThumbSubImm8 at h
    refine upds_of_does h ?_
    exact (does_look _).bind fun _ => does_thumbArith _ _
  | thumbAnd _ _ =>
    dsimp only [exec] at h
    unfold execThumbAnd at h
    refine upds_of_does h ?_
    exact (does_look _).bind fun _ => does_thumbLogic _ _
  | thumbEor _ _ =>
    dsimp only [exec] at h
    unfold execThumbEor at h
    refine upds_of_does h ?_
    exact (does_look _).bind fun _ => does_thumbLogic _ _
  | thumbLslReg _ _ =>
    dsimp only [exec] at h
    unfold execThumbLslReg at h
    refine upds_of_does h ?_
    exact does_thumbShiftReg _ _ _
  | thumbLsrReg _ _ =>
    dsimp only [exec] at h
    unfold execThumbLsrReg at h
    refine upds_of_does h ?_
    exact does_thumbShiftReg _ _ _
  | thumbAsrReg _ _ =>
    dsimp only [exec] at h
    unfold execThumbAsrReg at h
    refine upds_of_does h ?_
    exact does_thumbShiftReg _ _ _
  | thumbAdc _ _ =>
    dsimp only [exec] at h
    unfold execThumbAdc at h
    refine upds_of_does h ?_
    exact (does_look _).bind fun _ => does_thumbArith _ _
  | thumbSbc _ _ =>
    dsimp only [exec] at h
    unfold execThumbSbc at h
    refine upds_of_does h ?_
    exact (does_look _).bind fun _ => does_thumbArith _ _
  | thumbRor _ _ =>
    dsimp only [exec] at h
    unfold execThumbRor at h
    refine upds_of_does h ?_
    exact does_thumbShiftReg _ _ _
  | thumbTst _ _ =>
    dsimp only [exec] at h
    unfold execThumbTst at h
    refine upds_of_does h ?_
    exact (does_look _).bind fun _ => does_nzFlags _
  | thumbNeg _ _ =>
    dsimp only [exec] at h
    unfold execThumbNeg at h
    refine upds_of_does h ?_
    exact (does_look _).bind fun _ => does_thumbArith _ _
  | thumbCmpReg _ _ =>
    dsimp only [exec] at h
    unfold execThumbCmpReg at h
    refine upds_of_does h ?_
    exact (does_look _).bind fun _ => does_arithFlags _
  | thumbCmn _ _ =>
    dsimp only [exec] at h
    unfold execThumbCmn at h
    refine upds_of_does h ?_
    exact (does_look _).bind fun _ => does_arithFlags _
  | thumbOrr _ _ =>
    dsimp only [exec] at h
    unfold execThumbOrr at h
    refine upds_of_does h ?_
    exact (does_look _).bind fun _ => does_thumbLogic _ _
  | thumbMul _ _ =>
    dsimp only [exec] at h
    unfold execThumbMul at h
    refine upds_of_does h ?_
    exact (does_unpredictableIf _ _).bind fun _ => (does_look _).bind fun _ => does_thumbLogic _ _
  | thumbBic _ _ =>
    dsimp only [exec] at h
    unfold execThumbBic at h
    refine upds_of_does h ?_
    exact (does_look _).bind fun _ => does_thumbLogic _ _
  | thumbMvn _ _ =>
    dsimp only [exec] at h
    unfold execThumbMvn at h
    refine upds_of_does h ?_
    exact (does_look _).bind fun _ => does_thumbLogic _ _
  | thumbAddHi _ _ _ _ =>
    dsimp only [exec] at h
    unfold execThumbAddHi at h
    refine upds_of_does h ?_
    exact (does_unpredictableIf _ _).bind fun _ => (does_look _).bind fun _ => does_writeHi _ _
  | thumbCmpHi _ _ _ _ =>
    dsimp only [exec] at h
    unfold execThumbCmpHi at h
    refine upds_of_does h ?_
    exact (does_unpredictableIf _ _).bind fun _ => (does_look _).bind fun _ => does_arithFlags _
  | thumbMovHi _ _ _ _ =>
    dsimp only [exec] at h
    unfold execThumbMovHi at h
    refine upds_of_does h ?_
    exact (does_unpredictableIf _ _).bind fun _ => (does_readReg _).bind fun _ => does_writeHi _ _
  | thumbBx _ _ _ =>
    dsimp only [exec] at h
    unfold execThumbBx at h
    refine upds_of_does h ?_
    exact (does_shouldBe _).bind fun _ => (does_readReg _).bind fun _ => does_bxWritePC _
  | thumbBlxReg _ _ _ =>
    dsimp only [exec] at h
    unfold execThumbBlxReg at h
    refine upds_of_does h ?_
    exact (does_shouldBe _).bind fun _ => (does_unpredictableIf _ _).bind fun _ => (does_readReg _).bind fun _ => (does_look _).bind fun _ => (does_writeReg _ _).bind fun _ => does_bxWritePC _
  | thumbLdrPc _ _ =>
    dsimp only [exec] at h
    unfold execThumbLdrPc at h
    refine upds_of_does h ?_
    exact (does_look _).bind fun _ => does_thumbLoadWord _ _
  | thumbStrReg _ _ _ =>
    dsimp only [exec] at h
    unfold execThumbStrReg at h
    refine upds_of_does h ?_
    exact (does_look _).bind fun _ => does_storeReg _ _ _ _
  | thumbStrhReg _ _ _ =>
    dsimp only [exec] at h
    unfold execThumbStrhReg at h
    refine upds_of_does h ?_
    exact (does_look _).bind fun _ => does_storeHalf _ _
  | thumbStrbReg _ _ _ =>
    dsimp only [exec] at h
    unfold execThumbStrbReg at h
    refine upds_of_does h ?_
    exact (does_look _).bind fun _ => does_storeReg _ _ _ _
  | thumbLdrsb _ _ _ =>
    dsimp only [exec] at h
    unfold execThumbLdrsb at h
    refine upds_of_does h ?_
    exact (does_look _).bind fun _ => (does_loadByte _ _).bind fun _ => does_writeReg _ _
  | thumbLdrReg _ _ _ =>
    dsimp only [exec] at h
    unfold execThumbLdrReg at h
    refine upds_of_does h ?_
    exact (does_look _).bind fun _ => does_thumbLoadWord _ _
  | thumbLdrhReg _ _ _ =>
    dsimp only [exec] at h
    unfold execThumbLdrhReg at h
    refine upds_of_does h ?_
    exact (does_look _).bind fun _ => does_thumbLoadHalf _ _
  | thumbLdrbReg _ _ _ =>
    dsimp only [exec] at h
    unfold execThumbLdrbReg at h
    refine upds_of_does h ?_
    exact (does_look _).bind fun _ => does_thumbLoadByte _ _
  | thumbLdrsh _ _ _ =>
    dsimp only [exec] at h
    unfold execThumbLdrsh at h
    refine upds_of_does h ?_
    exact (does_look _).bind fun _ => (does_loadHalf _).bind fun _ => does_writeReg _ _
  | thumbStrImm _ _ _ =>
    dsimp only [exec] at h
    unfold execThumbStrImm at h
    refine upds_of_does h ?_
    exact (does_look _).bind fun _ => does_storeReg _ _ _ _
  | thumbLdrImm _ _ _ =>
    dsimp only [exec] at h
    unfold execThumbLdrImm at h
    refine upds_of_does h ?_
    exact (does_look _).bind fun _ => does_thumbLoadWord _ _
  | thumbStrbImm _ _ _ =>
    dsimp only [exec] at h
    unfold execThumbStrbImm at h
    refine upds_of_does h ?_
    exact (does_look _).bind fun _ => does_storeReg _ _ _ _
  | thumbLdrbImm _ _ _ =>
    dsimp only [exec] at h
    unfold execThumbLdrbImm at h
    refine upds_of_does h ?_
    exact (does_look _).bind fun _ => does_thumbLoadByte _ _
  | thumbStrhImm _ _ _ =>
    dsimp only [exec] at h
    unfold execThumbStrhImm at h
    refine upds_of_does h ?_
    exact (does_look _).bind fun _ => does_storeHalf _ _
  | thumbLdrhImm _ _ _ =>
    dsimp only [exec] at h
    unfold execThumbLdrhImm at h
    refine upds_of_does h ?_
    exact (does_look _).bind fun _ => does_thumbLoadHalf _ _
  | thumbStrSp _ _ =>
    dsimp only [exec] at h
    unfold execThumbStrSp at h
    refine upds_of_does h ?_
    exact (does_look _).bind fun _ => does_storeReg _ _ _ _
  | thumbLdrSp _ _ =>
    dsimp only [exec] at h
    unfold execThumbLdrSp at h
    refine upds_of_does h ?_
    exact (does_look _).bind fun _ => does_thumbLoadWord _ _
  | thumbAddPc _ _ =>
    dsimp only [exec] at h
    unfold execThumbAddPc at h
    refine upds_of_does h ?_
    exact (does_look _).bind fun _ => does_writeReg _ _
  | thumbAddSp _ _ =>
    dsimp only [exec] at h
    unfold execThumbAddSp at h
    refine upds_of_does h ?_
    exact (does_look _).bind fun _ => does_writeReg _ _
  | thumbAddSpImm7 _ =>
    dsimp only [exec] at h
    unfold execThumbAddSpImm7 at h
    refine upds_of_does h ?_
    exact (does_look _).bind fun _ => does_writeReg _ _
  | thumbSubSpImm7 _ =>
    dsimp only [exec] at h
    unfold execThumbSubSpImm7 at h
    refine upds_of_does h ?_
    exact (does_look _).bind fun _ => does_writeReg _ _
  | thumbPush _ _ =>
    dsimp only [exec] at h
    unfold execThumbPush at h
    refine upds_of_does h ?_
    exact (does_unpredictableIf _ _).bind fun _ => (does_look _).bind fun _ => (does_look _).bind fun _ => (does_storeList _ _ _ _).bind fun _ => does_writeReg _ _
  | thumbPop _ _ =>
    dsimp only [exec] at h
    unfold execThumbPop at h
    refine upds_of_does h ?_
    exact (does_unpredictableIf _ _).bind fun _ => (does_readReg _).bind fun _ => (does_look _).bind fun _ => (does_loadList _ _ _).bind fun _ => (does_writeReg _ _).bind fun _ => (does_setRegs _).bind fun _ => does_writeLoadedPc _
  | thumbStmia _ _ =>
    dsimp only [exec] at h
    unfold execThumbStmia at h
    refine upds_of_does h ?_
    exact (does_unpredictableIf _ _).bind fun _ => (does_readReg _).bind fun _ => (does_look _).bind fun _ => (does_storeList _ _ _ _).bind fun _ => does_writeReg _ _
  | thumbLdmia _ _ =>
    dsimp only [exec] at h
    unfold execThumbLdmia at h
    refine upds_of_does h ?_
    exact (does_unpredictableIf _ _).bind fun _ => (does_readReg _).bind fun _ => (does_look _).bind fun _ => (does_loadList _ _ _).bind fun _ => (does_writeReg _ _).bind fun _ => does_setRegs _
  | thumbBkpt _ =>
    dsimp only [exec] at h
    unfold execThumbBkpt at h
    refine upds_of_does h ?_
    exact does_raise _ _
  | thumbUndefined _ =>
    dsimp only [exec] at h
    unfold execThumbUndefined at h
    refine upds_of_does h ?_
    exact does_raise _ _
  | thumbSwi _ =>
    dsimp only [exec] at h
    unfold execThumbSwi at h
    refine upds_of_does h ?_
    exact does_raise _ _
  | thumbBCond c imm8 =>
    refine upds_of_runAct (doesAt_whenPassed fun _ => (does_look _ s).bind fun v u e => ?_) h
    cases e
    refine doesAt_change (Upd.jump s _ fun ha => ?_).one
    obtain ⟨hp, ht⟩ := (hA.symm ▸ ha : atHome _ s)
    rw [ht rfl]
    exact alignedFor_thumbTarget _ hp
  | thumbB imm11 =>
    dsimp only [exec] at h
    unfold execThumbB at h
    refine upds_of_runAct ?_ h
    refine (does_look _ s).bind fun v u e => ?_
    cases e
    refine doesAt_change (Upd.jump s _ fun ha => ?_).one
    obtain ⟨hp, ht⟩ := (hA.symm ▸ ha : atHome _ s)
    rw [ht rfl]
    exact alignedFor_thumbTarget _ hp
  | thumb32Bl cc imm10 j1 j2 imm11 =>
    refine upds_of_runAct ?_ h
    by_cases hj : (j1 && j2) = true
    · rw [if_pos hj]
      refine (does_look _ s).bind fun l u e => ?_
      cases e
      refine (does_look _ s).bind fun v u e => ?_
      cases e
      refine (does_writeReg _ _ s).bind fun _ u e => ?_
      cases e
      refine doesAt_change (Upd.jump _ _ fun ha => ?_).one
      obtain ⟨hp, ht⟩ := (hA.symm ▸ ha : atHome _ s)
      have ht : psrT s.cpsr = true := ht rfl
      simpa [ht, blOffset] using alignedFor_thumbTarget _ hp
    · rw [if_neg hj]
      exact does_stopUnsupported _ s
  | thumb32BlxImm cc imm10H j1 j2 imm10L hb =>
    refine upds_of_runAct ?_ h
    by_cases hj : (j1 && j2) = true
    · rw [if_pos hj]
      refine (does_unpredictableIf _ _ s).bind fun _ u e => ?_
      have hu : u = s := by rw [unpredictableIf_apply] at e; split at e <;> cases e; rfl
      subst hu
      refine (does_look _ _).bind fun l u e => ?_
      cases e
      refine (does_look _ _).bind fun v u e => ?_
      cases e
      refine (does_writeReg _ _ _).bind fun _ u e => ?_
      cases e
      exact doesAt_setTJump (Upd.exchange _ false _ fun _ =>
        alignedFor_add_false (alignedFor_clearBits _) (alignedFor_shiftLeft_two _))
    · rw [if_neg hj]
      exact does_stopUnsupported _ s
  | thumb32BT4 _ _ _ _ _ => cases h
  | thumb32Udf _ _ =>
    dsimp only [exec] at h
    unfold execThumb32Udf at h
    refine upds_of_does h ?_
    exact does_raise _ _
  | thumb32Smc _ _ => cases h
  | thumb32Msr _ _ _ => cases h
  | thumb32Hint _ _ _ => cases h
  | thumb32MiscCtl _ _ _ => cases h
  | thumb32Bxj _ _ _ => cases h
  | thumb32SubsPcLr _ _ _ => cases h
  | thumb32Mrs _ _ _ => cases h
  | thumb32BrMiscUndef _ _ _ _ => cases h
  | thumb32BT3 _ _ _ _ _ _ => cases h
  | thumb32DpImm _ _ => cases h
  | thumb32Space01 _ => cases h
  | thumb32Space11 _ => cases h

end Sys2Proof.Machine
end

