-- ==== Sys2Proof/Laws/Fields.lean ====
section
/-! SUPPORT. How a placed field reads back: the lemmas that make decode after encode a matter of literals
(spec/30_encoding.md R310 to R351). -/
namespace Sys2Proof

theorem getLsbD_place {n lo k : Nat} (x : BitVec k) (i : Nat) :
    (place n lo x).getLsbD i = (decide (i < n) && decide (lo ≤ i) && x.getLsbD (i - lo)) := by
  unfold place
  rw [BitVec.getLsbD_shiftLeft, BitVec.getLsbD_setWidth]
  by_cases h : i < n
  · by_cases h2 : lo ≤ i
    · simp [h, h2, show ¬ i < lo by omega, show i - lo < n by omega]
    · simp [h2, show i < lo by omega]
  · simp [h]

/-- A field reads back from where it was placed. -/
theorem extract_place {n lo k : Nat} (x : BitVec k) (h : lo + k ≤ n) : (place n lo x).extractLsb' lo k = x := by
  apply BitVec.eq_of_getLsbD_eq
  intro i hi
  rw [BitVec.getLsbD_extractLsb', getLsbD_place]
  simp [hi, show lo + i < n by omega]

/-- Elsewhere a placed field reads 0. -/
theorem extract_place_off {n lo k s l : Nat} (x : BitVec k) (h : lo + k ≤ s ∨ s + l ≤ lo) :
    (place n lo x).extractLsb' s l = 0#l := by
  apply BitVec.eq_of_getLsbD_eq
  intro i hi
  rw [BitVec.getLsbD_extractLsb', getLsbD_place]
  rcases h with h | h
  · simp [BitVec.getLsbD_of_ge x (s + i - lo) (by omega)]
  · simp [show ¬ lo ≤ s + i by omega]

@[simp] theorem Cond.ofBits_bits (c : Cond) : Cond.ofBits c.bits = c := by cases c <;> rfl
@[simp] theorem Cond.bits_ofBits (b : BitVec 4) : (Cond.ofBits b).bits = b := by revert b; decide
@[simp] theorem ShiftKind.ofBits_bits (c : ShiftKind) : ShiftKind.ofBits c.bits = c := by cases c <;> rfl
@[simp] theorem ShiftKind.bits_ofBits (b : BitVec 2) : (ShiftKind.ofBits b).bits = b := by revert b; decide

theorem getElem_place {n lo k : Nat} (x : BitVec k) (i : Nat) (h : i < n) :
    (place n lo x)[i] = (decide (lo ≤ i) && x.getLsbD (i - lo)) := by
  rw [← BitVec.getLsbD_eq_getElem, getLsbD_place]; simp [h]

end Sys2Proof
end

