-- ==== Sys2Proof/Laws/PerInstr.lean ====
section
/-! SUPPORT. The per-instruction family FetchLength: an encoded instruction has the length that the fetch reads it with
(spec/30_encoding.md R300, R302). -/

namespace Sys2Proof.Laws.FetchLength

open Sys2Proof

-- One theorem after another: a thread for each of them would need a stack of its own.
set_option Elab.async false

/-- The length test of R300 on the first halfword tells a 16-bit from a 32-bit Thumb encoding. -/
def Statement (i : Instr) : Prop :=
  i.wellFormed = true →
    match encode i with
    | .arm _ => True
    | .thumb h => isThumb32Prefix h = false
    | .thumb32 w => isThumb32Prefix (w.extractLsb' 16 16) = true

/-- A Thumb halfword's length test reads its top five bits. -/
theorem prefix_of_top {h : Half} {t : BitVec 5} (ht : h.extractLsb' 11 5 = t) :
    isThumb32Prefix h = (t == 0b11101#5 || t == 0b11110#5 || t == 0b11111#5) := by
  unfold isThumb32Prefix
  rw [ht]

/-- The top five bits of a 32-bit Thumb instruction's first halfword. -/
theorem prefix_of_word {w : Word} {t : BitVec 5} (ht : w.extractLsb' 27 5 = t) :
    isThumb32Prefix (w.extractLsb' 16 16) = (t == 0b11101#5 || t == 0b11110#5 || t == 0b11111#5) := by
  refine prefix_of_top ?_
  rw [← ht]
  apply BitVec.eq_of_getLsbD_eq
  intro i hi
  rw [BitVec.getLsbD_extractLsb', BitVec.getLsbD_extractLsb', BitVec.getLsbD_extractLsb']
  simp [hi, show 11 + i < 16 by omega, show 16 + (11 + i) = 27 + i by omega]

theorem armAnd (c : Cond) (sf : Bool) (rn : RegNum) (rd : RegNum) (op2 : Operand2) :
    Statement (.armAnd c sf rn rd op2) := fun _ => trivial
theorem armEor (c : Cond) (sf : Bool) (rn : RegNum) (rd : RegNum) (op2 : Operand2) :
    Statement (.armEor c sf rn rd op2) := fun _ => trivial
theorem armSub (c : Cond) (sf : Bool) (rn : RegNum) (rd : RegNum) (op2 : Operand2) :
    Statement (.armSub c sf rn rd op2) := fun _ => trivial
theorem armRsb (c : Cond) (sf : Bool) (rn : RegNum) (rd : RegNum) (op2 : Operand2) :
    Statement (.armRsb c sf rn rd op2) := fun _ => trivial
theorem armAdd (c : Cond) (sf : Bool) (rn : RegNum) (rd : RegNum) (op2 : Operand2) :
    Statement (.armAdd c sf rn rd op2) := fun _ => trivial
theorem armAdc (c : Cond) (sf : Bool) (rn : RegNum) (rd : RegNum) (op2 : Operand2) :
    Statement (.armAdc c sf rn rd op2) := fun _ => trivial
theorem armSbc (c : Cond) (sf : Bool) (rn : RegNum) (rd : RegNum) (op2 : Operand2) :
    Statement (.armSbc c sf rn rd op2) := fun _ => trivial
theorem armRsc (c : Cond) (sf : Bool) (rn : RegNum) (rd : RegNum) (op2 : Operand2) :
    Statement (.armRsc c sf rn rd op2) := fun _ => trivial
theorem armTst (c : Cond) (rn : RegNum) (sb : BitVec 4) (op2 : Operand2) : Statement (.armTst c rn sb op2) := fun _ => trivial
theorem armTeq (c : Cond) (rn : RegNum) (sb : BitVec 4) (op2 : Operand2) : Statement (.armTeq c rn sb op2) := fun _ => trivial
theorem armCmp (c : Cond) (rn : RegNum) (sb : BitVec 4) (op2 : Operand2) : Statement (.armCmp c rn sb op2) := fun _ => trivial
theorem armCmn (c : Cond) (rn : RegNum) (sb : BitVec 4) (op2 : Operand2) : Statement (.armCmn c rn sb op2) := fun _ => trivial
theorem armOrr (c : Cond) (sf : Bool) (rn : RegNum) (rd : RegNum) (op2 : Operand2) :
    Statement (.armOrr c sf rn rd op2) := fun _ => trivial
theorem armMov (c : Cond) (sf : Bool) (sb : BitVec 4) (rd : RegNum) (op2 : Operand2) :
    Statement (.armMov c sf sb rd op2) := fun _ => trivial
theorem armBic (c : Cond) (sf : Bool) (rn : RegNum) (rd : RegNum) (op2 : Operand2) :
    Statement (.armBic c sf rn rd op2) := fun _ => trivial
theorem armMvn (c : Cond) (sf : Bool) (sb : BitVec 4) (rd : RegNum) (op2 : Operand2) :
    Statement (.armMvn c sf sb rd op2) := fun _ => trivial
theorem armMul (c : Cond) (sf : Bool) (rd : RegNum) (sb : BitVec 4) (rs : RegNum) (rm : RegNum) :
    Statement (.armMul c sf rd sb rs rm) := fun _ => trivial
theorem armMla (c : Cond) (sf : Bool) (rd : RegNum) (rn : RegNum) (rs : RegNum) (rm : RegNum) :
    Statement (.armMla c sf rd rn rs rm) := fun _ => trivial
theorem armUmull (c : Cond) (sf : Bool) (rdHi : RegNum) (rdLo : RegNum) (rs : RegNum) (rm : RegNum) :
    Statement (.armUmull c sf rdHi rdLo rs rm) := fun _ => trivial
theorem armUmlal (c : Cond) (sf : Bool) (rdHi : RegNum) (rdLo : RegNum) (rs : RegNum) (rm : RegNum) :
    Statement (.armUmlal c sf rdHi rdLo rs rm) := fun _ => trivial
theorem armSmull (c : Cond) (sf : Bool) (rdHi : RegNum) (rdLo : RegNum) (rs : RegNum) (rm : RegNum) :
    Statement (.armSmull c sf rdHi rdLo rs rm) := fun _ => trivial
theorem armSmlal (c : Cond) (sf : Bool) (rdHi : RegNum) (rdLo : RegNum) (rs : RegNum) (rm : RegNum) :
    Statement (.armSmlal c sf rdHi rdLo rs rm) := fun _ => trivial
theorem armSmlaxy (c : Cond) (rd : RegNum) (rn : RegNum) (rs : RegNum) (y : Bool) (x : Bool) (rm : RegNum) :
    Statement (.armSmlaxy c rd rn rs y x rm) := fun _ => trivial
theorem armSmlawy (c : Cond) (rd : RegNum) (rn : RegNum) (rs : RegNum) (y : Bool) (rm : RegNum) :
    Statement (.armSmlawy c rd rn rs y rm) := fun _ => trivial
theorem armSmulwy (c : Cond) (rd : RegNum) (sb : BitVec 4) (rs : RegNum) (y : Bool) (rm : RegNum) :
    Statement (.armSmulwy c rd sb rs y rm) := fun _ => trivial
theorem armSmlalxy (c : Cond) (rdHi : RegNum) (rdLo : RegNum) (rs : RegNum) (y : Bool) (x : Bool) (rm : RegNum) :
    Statement (.armSmlalxy c rdHi rdLo rs y x rm) := fun _ => trivial
theorem armSmulxy (c : Cond) (rd : RegNum) (sb : BitVec 4) (rs : RegNum) (y : Bool) (x : Bool) (rm : RegNum) :
    Statement (.armSmulxy c rd sb rs y x rm) := fun _ => trivial
theorem armQadd (c : Cond) (rn : RegNum) (rd : RegNum) (sb : BitVec 4) (rm : RegNum) :
    Statement (.armQadd c rn rd sb rm) := fun _ => trivial
theorem armQsub (c : Cond) (rn : RegNum) (rd : RegNum) (sb : BitVec 4) (rm : RegNum) :
    Statement (.armQsub c rn rd sb rm) := fun _ => trivial
theorem armQdadd (c : Cond) (rn : RegNum) (rd : RegNum) (sb : BitVec 4) (rm : RegNum) :
    Statement (.armQdadd c rn rd sb rm) := fun _ => trivial
theorem armQdsub (c : Cond) (rn : RegNum) (rd : RegNum) (sb : BitVec 4) (rm : RegNum) :
    Statement (.armQdsub c rn rd sb rm) := fun _ => trivial
theorem armLdr (c : Cond) (u : Bool) (ix : Indexing) (rn : RegNum) (rd : RegNum) (off : Offset2) :
    Statement (.armLdr c u ix rn rd off) := fun _ => trivial
theorem armStr (c : Cond) (u : Bool) (ix : Indexing) (rn : RegNum) (rd : RegNum) (off : Offset2) :
    Statement (.armStr c u ix rn rd off) := fun _ => trivial
theorem armLdrb (c : Cond) (u : Bool) (ix : Indexing) (rn : RegNum) (rd : RegNum) (off : Offset2) :
    Statement (.armLdrb c u ix rn rd off) := fun _ => trivial
theorem armStrb (c : Cond) (u : Bool) (ix : Indexing) (rn : RegNum) (rd : RegNum) (off : Offset2) :
    Statement (.armStrb c u ix rn rd off) := fun _ => trivial
theorem armLdrt (c : Cond) (u : Bool) (rn : RegNum) (rd : RegNum) (off : Offset2) :
    Statement (.armLdrt c u rn rd off) := fun _ => trivial
theorem armStrt (c : Cond) (u : Bool) (rn : RegNum) (rd : RegNum) (off : Offset2) :
    Statement (.armStrt c u rn rd off) := fun _ => trivial
theorem armLdrbt (c : Cond) (u : Bool) (rn : RegNum) (rd : RegNum) (off : Offset2) :
    Statement (.armLdrbt c u rn rd off) := fun _ => trivial
theorem armStrbt (c : Cond) (u : Bool) (rn : RegNum) (rd : RegNum) (off : Offset2) :
    Statement (.armStrbt c u rn rd off) := fun _ => trivial
theorem armLdrh (c : Cond) (p : Bool) (u : Bool) (w : Bool) (rn : RegNum) (rd : RegNum) (off : Offset3) :
    Statement (.armLdrh c p u w rn rd off) := fun _ => trivial
theorem armStrh (c : Cond) (p : Bool) (u : Bool) (w : Bool) (rn : RegNum) (rd : RegNum) (off : Offset3) :
    Statement (.armStrh c p u w rn rd off) := fun _ => trivial
theorem armLdrsb (c : Cond) (p : Bool) (u : Bool) (w : Bool) (rn : RegNum) (rd : RegNum) (off : Offset3) :
    Statement (.armLdrsb c p u w rn rd off) := fun _ => trivial
theorem armLdrsh (c : Cond) (p : Bool) (u : Bool) (w : Bool) (rn : RegNum) (rd : RegNum) (off : Offset3) :
    Statement (.armLdrsh c p u w rn rd off) := fun _ => trivial
theorem armLdrd (c : Cond) (p : Bool) (u : Bool) (w : Bool) (rn : RegNum) (rd : RegNum) (off : Offset3) :
    Statement (.armLdrd c p u w rn rd off) := fun _ => trivial
theorem armStrd (c : Cond) (p : Bool) (u : Bool) (w : Bool) (rn : RegNum) (rd : RegNum) (off : Offset3) :
    Statement (.armStrd c p u w rn rd off) := fun _ => trivial
theorem armSwp (c : Cond) (rn : RegNum) (rd : RegNum) (sb : BitVec 4) (rm : RegNum) :
    Statement (.armSwp c rn rd sb rm) := fun _ => trivial
theorem armSwpb (c : Cond) (rn : RegNum) (rd : RegNum) (sb : BitVec 4) (rm : RegNum) :
    Statement (.armSwpb c rn rd sb rm) := fun _ => trivial
theorem armPldImm (u : Bool) (rn : RegNum) (sb : BitVec 4) (offset12 : BitVec 12) :
    Statement (.armPldImm u rn sb offset12) := fun _ => trivial
theorem armPldReg (u : Bool) (rn : RegNum) (sb : BitVec 4) (amt : BitVec 5) (kind : ShiftKind) (rm : RegNum) :
    Statement (.armPldReg u rn sb amt kind rm) := fun _ => trivial
theorem armLdm1 (c : Cond) (p : Bool) (u : Bool) (w : Bool) (rn : RegNum) (list : BitVec 16) :
    Statement (.armLdm1 c p u w rn list) := fun _ => trivial
theorem armLdm2 (c : Cond) (p : Bool) (u : Bool) (w : Bool) (rn : RegNum) (list : BitVec 15) :
    Statement (.armLdm2 c p u w rn list) := fun _ => trivial
theorem armLdm3 (c : Cond) (p : Bool) (u : Bool) (w : Bool) (rn : RegNum) (list : BitVec 15) :
    Statement (.armLdm3 c p u w rn list) := fun _ => trivial
theorem armStm1 (c : Cond) (p : Bool) (u : Bool) (w : Bool) (rn : RegNum) (list : BitVec 16) :
    Statement (.armStm1 c p u w rn list) := fun _ => trivial
theorem armStm2 (c : Cond) (p : Bool) (u : Bool) (w : Bool) (rn : RegNum) (list : BitVec 16) :
    Statement (.armStm2 c p u w rn list) := fun _ => trivial
theorem armB (c : Cond) (imm24 : BitVec 24) : Statement (.armB c imm24) := fun _ => trivial
theorem armBl (c : Cond) (imm24 : BitVec 24) : Statement (.armBl c imm24) := fun _ => trivial
theorem armBx (c : Cond) (sb : BitVec 12) (rm : RegNum) : Statement (.armBx c sb rm) := fun _ => trivial
theorem armBlxImm (h : Bool) (imm24 : BitVec 24) : Statement (.armBlxImm h imm24) := fun _ => trivial
theorem armBlxReg (c : Cond) (sb : BitVec 12) (rm : RegNum) : Statement (.armBlxReg c sb rm) := fun _ => trivial
theorem armMrs (c : Cond) (r : Bool) (sb19 : BitVec 4) (rd : RegNum) (sb11 : BitVec 4) (sb3 : BitVec 4) :
    Statement (.armMrs c r sb19 rd sb11 sb3) := fun _ => trivial
theorem armMsrReg (c : Cond) (r : Bool) (mask : BitVec 4) (sb : BitVec 8) (rm : RegNum) :
    Statement (.armMsrReg c r mask sb rm) := fun _ => trivial
theorem armMsrImm (c : Cond) (r : Bool) (mask : BitVec 4) (sb : BitVec 4) (rot : BitVec 4) (imm8 : BitVec 8) :
    Statement (.armMsrImm c r mask sb rot imm8) := fun _ => trivial
theorem armClz (c : Cond) (sb19 : BitVec 4) (rd : RegNum) (sb11 : BitVec 4) (rm : RegNum) :
    Statement (.armClz c sb19 rd sb11 rm) := fun _ => trivial
theorem armBkpt (c : Cond) (immH : BitVec 12) (immL : BitVec 4) : Statement (.armBkpt c immH immL) := fun _ => trivial
theorem armSwi (c : Cond) (imm24 : BitVec 24) : Statement (.armSwi c imm24) := fun _ => trivial
theorem armUndefined (w : Word) : Statement (.armUndefined w) := fun _ => trivial
theorem armMcr (c : Cond) (op1 : BitVec 3) (crn : BitVec 4) (rd : BitVec 4) (cp : BitVec 4) (op2 : BitVec 3) (crm : BitVec 4) :
    Statement (.armMcr c op1 crn rd cp op2 crm) := fun _ => trivial
theorem armMrc (c : Cond) (op1 : BitVec 3) (crn : BitVec 4) (rd : BitVec 4) (cp : BitVec 4) (op2 : BitVec 3) (crm : BitVec 4) :
    Statement (.armMrc c op1 crn rd cp op2 crm) := fun _ => trivial
theorem armCdp (c : Cond) (op1 : BitVec 4) (crn : BitVec 4) (crd : BitVec 4) (cp : BitVec 4) (op2 : BitVec 3) (crm : BitVec 4) :
    Statement (.armCdp c op1 crn crd cp op2 crm) := fun _ => trivial
theorem armLdc (c : Cond) (p : Bool) (u : Bool) (n : Bool) (w : Bool) (rn : BitVec 4) (crd : BitVec 4) (cp : BitVec 4) (offset8 : BitVec 8) :
    Statement (.armLdc c p u n w rn crd cp offset8) := fun _ => trivial
theorem armStc (c : Cond) (p : Bool) (u : Bool) (n : Bool) (w : Bool) (rn : BitVec 4) (crd : BitVec 4) (cp : BitVec 4) (offset8 : BitVec 8) :
    Statement (.armStc c p u n w rn crd cp offset8) := fun _ => trivial
theorem armMcrr (c : Cond) (rn : BitVec 4) (rd : BitVec 4) (cp : BitVec 4) (op : BitVec 4) (crm : BitVec 4) :
    Statement (.armMcrr c rn rd cp op crm) := fun _ => trivial
theorem armMrrc (c : Cond) (rn : BitVec 4) (rd : BitVec 4) (cp : BitVec 4) (op : BitVec 4) (crm : BitVec 4) :
    Statement (.armMrrc c rn rd cp op crm) := fun _ => trivial
theorem armCdp2 (op1 : BitVec 4) (crn : BitVec 4) (crd : BitVec 4) (cp : BitVec 4) (op2 : BitVec 3) (crm : BitVec 4) :
    Statement (.armCdp2 op1 crn crd cp op2 crm) := fun _ => trivial
theorem armLdc2 (p : Bool) (u : Bool) (n : Bool) (w : Bool) (rn : BitVec 4) (crd : BitVec 4) (cp : BitVec 4) (offset8 : BitVec 8) :
    Statement (.armLdc2 p u n w rn crd cp offset8) := fun _ => trivial
theorem armStc2 (p : Bool) (u : Bool) (n : Bool) (w : Bool) (rn : BitVec 4) (crd : BitVec 4) (cp : BitVec 4) (offset8 : BitVec 8) :
    Statement (.armStc2 p u n w rn crd cp offset8) := fun _ => trivial
theorem armMcr2 (op1 : BitVec 3) (crn : BitVec 4) (rd : BitVec 4) (cp : BitVec 4) (op2 : BitVec 3) (crm : BitVec 4) :
    Statement (.armMcr2 op1 crn rd cp op2 crm) := fun _ => trivial
theorem armMrc2 (op1 : BitVec 3) (crn : BitVec 4) (rd : BitVec 4) (cp : BitVec 4) (op2 : BitVec 3) (crm : BitVec 4) :
    Statement (.armMrc2 op1 crn rd cp op2 crm) := fun _ => trivial
theorem thumbLslImm (imm5 : BitVec 5) (rm : LowReg) (rd : LowReg) : Statement (.thumbLslImm imm5 rm rd) := by
  intro _
  simp [encode, encodeT5, isThumb32Prefix, BitVec.extractLsb'_or, extract_place_off]
theorem thumbLsrImm (imm5 : BitVec 5) (rm : LowReg) (rd : LowReg) : Statement (.thumbLsrImm imm5 rm rd) := by
  intro _
  simp [encode, encodeT5, isThumb32Prefix, BitVec.extractLsb'_or, extract_place_off]
theorem thumbAsrImm (imm5 : BitVec 5) (rm : LowReg) (rd : LowReg) : Statement (.thumbAsrImm imm5 rm rd) := by
  intro _
  simp [encode, encodeT5, isThumb32Prefix, BitVec.extractLsb'_or, extract_place_off]
theorem thumbAddReg (rm : LowReg) (rn : LowReg) (rd : LowReg) : Statement (.thumbAddReg rm rn rd) := by
  intro _
  simp [encode, encodeT333, isThumb32Prefix, BitVec.extractLsb'_or, extract_place_off]
theorem thumbSubReg (rm : LowReg) (rn : LowReg) (rd : LowReg) : Statement (.thumbSubReg rm rn rd) := by
  intro _
  simp [encode, encodeT333, isThumb32Prefix, BitVec.extractLsb'_or, extract_place_off]
theorem thumbAddImm3 (imm3 : BitVec 3) (rn : LowReg) (rd : LowReg) : Statement (.thumbAddImm3 imm3 rn rd) := by
  intro _
  simp [encode, encodeT333, isThumb32Prefix, BitVec.extractLsb'_or, extract_place_off]
theorem thumbSubImm3 (imm3 : BitVec 3) (rn : LowReg) (rd : LowReg) : Statement (.thumbSubImm3 imm3 rn rd) := by
  intro _
  simp [encode, encodeT333, isThumb32Prefix, BitVec.extractLsb'_or, extract_place_off]
theorem thumbMovImm (rd : LowReg) (imm8 : BitVec 8) : Statement (.thumbMovImm rd imm8) := by
  intro _
  simp [encode, encodeT38, isThumb32Prefix, BitVec.extractLsb'_or, extract_place_off]
theorem thumbCmpImm (rn : LowReg) (imm8 : BitVec 8) : Statement (.thumbCmpImm rn imm8) := by
  intro _
  simp [encode, encodeT38, isThumb32Prefix, BitVec.extractLsb'_or, extract_place_off]
theorem thumbAddImm8 (rd : LowReg) (imm8 : BitVec 8) : Statement (.thumbAddImm8 rd imm8) := by
  intro _
  simp [encode, encodeT38, isThumb32Prefix, BitVec.extractLsb'_or, extract_place_off]
theorem thumbSubImm8 (rd : LowReg) (imm8 : BitVec 8) : Statement (.thumbSubImm8 rd imm8) := by
  intro _
  simp [encode, encodeT38, isThumb32Prefix, BitVec.extractLsb'_or, extract_place_off]
theorem thumbAnd (rm : LowReg) (rd : LowReg) : Statement (.thumbAnd rm rd) := by
  intro _
  simp [encode, encodeT33, isThumb32Prefix, BitVec.extractLsb'_or, extract_place_off]
theorem thumbEor (rm : LowReg) (rd : LowReg) : Statement (.thumbEor rm rd) := by
  intro _
  simp [encode, encodeT33, isThumb32Prefix, BitVec.extractLsb'_or, extract_place_off]
theorem thumbLslReg (rm : LowReg) (rd : LowReg) : Statement (.thumbLslReg rm rd) := by
  intro _
  simp [encode, encodeT33, isThumb32Prefix, BitVec.extractLsb'_or, extract_place_off]
theorem thumbLsrReg (rm : LowReg) (rd : LowReg) : Statement (.thumbLsrReg rm rd) := by
  intro _
  simp [encode, encodeT33, isThumb32Prefix, BitVec.extractLsb'_or, extract_place_off]
theorem thumbAsrReg (rm : LowReg) (rd : LowReg) : Statement (.thumbAsrReg rm rd) := by
  intro _
  simp [encode, encodeT33, isThumb32Prefix, BitVec.extractLsb'_or, extract_place_off]
theorem thumbAdc (rm : LowReg) (rd : LowReg) : Statement (.thumbAdc rm rd) := by
  intro _
  simp [encode, encodeT33, isThumb32Prefix, BitVec.extractLsb'_or, extract_place_off]
theorem thumbSbc (rm : LowReg) (rd : LowReg) : Statement (.thumbSbc rm rd) := by
  intro _
  simp [encode, encodeT33, isThumb32Prefix, BitVec.extractLsb'_or, extract_place_off]
theorem thumbRor (rm : LowReg) (rd : LowReg) : Statement (.thumbRor rm rd) := by
  intro _
  simp [encode, encodeT33, isThumb32Prefix, BitVec.extractLsb'_or, extract_place_off]
theorem thumbTst (rm : LowReg) (rd : LowReg) : Statement (.thumbTst rm rd) := by
  intro _
  simp [encode, encodeT33, isThumb32Prefix, BitVec.extractLsb'_or, extract_place_off]
theorem thumbNeg (rm : LowReg) (rd : LowReg) : Statement (.thumbNeg rm rd) := by
  intro _
  simp [encode, encodeT33, isThumb32Prefix, BitVec.extractLsb'_or, extract_place_off]
theorem thumbCmpReg (rm : LowReg) (rd : LowReg) : Statement (.thumbCmpReg rm rd) := by
  intro _
  simp [encode, encodeT33, isThumb32Prefix, BitVec.extractLsb'_or, extract_place_off]
theorem thumbCmn (rm : LowReg) (rd : LowReg) : Statement (.thumbCmn rm rd) := by
  intro _
  simp [encode, encodeT33, isThumb32Prefix, BitVec.extractLsb'_or, extract_place_off]
theorem thumbOrr (rm : LowReg) (rd : LowReg) : Statement (.thumbOrr rm rd) := by
  intro _
  simp [encode, encodeT33, isThumb32Prefix, BitVec.extractLsb'_or, extract_place_off]
theorem thumbMul (rm : LowReg) (rd : LowReg) : Statement (.thumbMul rm rd) := by
  intro _
  simp [encode, encodeT33, isThumb32Prefix, BitVec.extractLsb'_or, extract_place_off]
theorem thumbBic (rm : LowReg) (rd : LowReg) : Statement (.thumbBic rm rd) := by
  intro _
  simp [encode, encodeT33, isThumb32Prefix, BitVec.extractLsb'_or, extract_place_off]
theorem thumbMvn (rm : LowReg) (rd : LowReg) : Statement (.thumbMvn rm rd) := by
  intro _
  simp [encode, encodeT33, isThumb32Prefix, BitVec.extractLsb'_or, extract_place_off]
theorem thumbAddHi (h1 : Bool) (h2 : Bool) (rm : LowReg) (rd : LowReg) :
    Statement (.thumbAddHi h1 h2 rm rd) := by
  intro _
  simp [encode, encodeTHi, placeBit, isThumb32Prefix, BitVec.extractLsb'_or, extract_place_off]
theorem thumbCmpHi (h1 : Bool) (h2 : Bool) (rm : LowReg) (rn : LowReg) :
    Statement (.thumbCmpHi h1 h2 rm rn) := by
  intro _
  simp [encode, encodeTHi, placeBit, isThumb32Prefix, BitVec.extractLsb'_or, extract_place_off]
theorem thumbMovHi (h1 : Bool) (h2 : Bool) (rm : LowReg) (rd : LowReg) :
    Statement (.thumbMovHi h1 h2 rm rd) := by
  intro _
  simp [encode, encodeTHi, placeBit, isThumb32Prefix, BitVec.extractLsb'_or, extract_place_off]
theorem thumbBx (h2 : Bool) (rm : LowReg) (sb : BitVec 3) : Statement (.thumbBx h2 rm sb) := by
  intro _
  simp [encode, encodeTHi, placeBit, isThumb32Prefix, BitVec.extractLsb'_or, extract_place_off]
theorem thumbBlxReg (h2 : Bool) (rm : LowReg) (sb : BitVec 3) : Statement (.thumbBlxReg h2 rm sb) := by
  intro _
  simp [encode, encodeTHi, placeBit, isThumb32Prefix, BitVec.extractLsb'_or, extract_place_off]
theorem thumbLdrPc (rd : LowReg) (imm8 : BitVec 8) : Statement (.thumbLdrPc rd imm8) := by
  intro _
  simp [encode, encodeT38, isThumb32Prefix, BitVec.extractLsb'_or, extract_place_off]
theorem thumbStrReg (rm : LowReg) (rn : LowReg) (rd : LowReg) : Statement (.thumbStrReg rm rn rd) := by
  intro _
  simp [encode, encodeT333, isThumb32Prefix, BitVec.extractLsb'_or, extract_place_off]
theorem thumbStrhReg (rm : LowReg) (rn : LowReg) (rd : LowReg) : Statement (.thumbStrhReg rm rn rd) := by
  intro _
  simp [encode, encodeT333, isThumb32Prefix, BitVec.extractLsb'_or, extract_place_off]
theorem thumbStrbReg (rm : LowReg) (rn : LowReg) (rd : LowReg) : Statement (.thumbStrbReg rm rn rd) := by
  intro _
  simp [encode, encodeT333, isThumb32Prefix, BitVec.extractLsb'_or, extract_place_off]
theorem thumbLdrsb (rm : LowReg) (rn : LowReg) (rd : LowReg) : Statement (.thumbLdrsb rm rn rd) := by
  intro _
  simp [encode, encodeT333, isThumb32Prefix, BitVec.extractLsb'_or, extract_place_off]
theorem thumbLdrReg (rm : LowReg) (rn : LowReg) (rd : LowReg) : Statement (.thumbLdrReg rm rn rd) := by
  intro _
  simp [encode, encodeT333, isThumb32Prefix, BitVec.extractLsb'_or, extract_place_off]
theorem thumbLdrhReg (rm : LowReg) (rn : LowReg) (rd : LowReg) : Statement (.thumbLdrhReg rm rn rd) := by
  intro _
  simp [encode, encodeT333, isThumb32Prefix, BitVec.extractLsb'_or, extract_place_off]
theorem thumbLdrbReg (rm : LowReg) (rn : LowReg) (rd : LowReg) : Statement (.thumbLdrbReg rm rn rd) := by
  intro _
  simp [encode, encodeT333, isThumb32Prefix, BitVec.extractLsb'_or, extract_place_off]
theorem thumbLdrsh (rm : LowReg) (rn : LowReg) (rd : LowReg) : Statement (.thumbLdrsh rm rn rd) := by
  intro _
  simp [encode, encodeT333, isThumb32Prefix, BitVec.extractLsb'_or, extract_place_off]
theorem thumbStrImm (imm5 : BitVec 5) (rn : LowReg) (rd : LowReg) : Statement (.thumbStrImm imm5 rn rd) := by
  intro _
  simp [encode, encodeT5, isThumb32Prefix, BitVec.extractLsb'_or, extract_place_off]
theorem thumbLdrImm (imm5 : BitVec 5) (rn : LowReg) (rd : LowReg) : Statement (.thumbLdrImm imm5 rn rd) := by
  intro _
  simp [encode, encodeT5, isThumb32Prefix, BitVec.extractLsb'_or, extract_place_off]
theorem thumbStrbImm (imm5 : BitVec 5) (rn : LowReg) (rd : LowReg) : Statement (.thumbStrbImm imm5 rn rd) := by
  intro _
  simp [encode, encodeT5, isThumb32Prefix, BitVec.extractLsb'_or, extract_place_off]
theorem thumbLdrbImm (imm5 : BitVec 5) (rn : LowReg) (rd : LowReg) : Statement (.thumbLdrbImm imm5 rn rd) := by
  intro _
  simp [encode, encodeT5, isThumb32Prefix, BitVec.extractLsb'_or, extract_place_off]
theorem thumbStrhImm (imm5 : BitVec 5) (rn : LowReg) (rd : LowReg) : Statement (.thumbStrhImm imm5 rn rd) := by
  intro _
  simp [encode, encodeT5, isThumb32Prefix, BitVec.extractLsb'_or, extract_place_off]
theorem thumbLdrhImm (imm5 : BitVec 5) (rn : LowReg) (rd : LowReg) : Statement (.thumbLdrhImm imm5 rn rd) := by
  intro _
  simp [encode, encodeT5, isThumb32Prefix, BitVec.extractLsb'_or, extract_place_off]
theorem thumbStrSp (rd : LowReg) (imm8 : BitVec 8) : Statement (.thumbStrSp rd imm8) := by
  intro _
  simp [encode, encodeT38, isThumb32Prefix, BitVec.extractLsb'_or, extract_place_off]
theorem thumbLdrSp (rd : LowReg) (imm8 : BitVec 8) : Statement (.thumbLdrSp rd imm8) := by
  intro _
  simp [encode, encodeT38, isThumb32Prefix, BitVec.extractLsb'_or, extract_place_off]
theorem thumbAddPc (rd : LowReg) (imm8 : BitVec 8) : Statement (.thumbAddPc rd imm8) := by
  intro _
  simp [encode, encodeT38, isThumb32Prefix, BitVec.extractLsb'_or, extract_place_off]
theorem thumbAddSp (rd : LowReg) (imm8 : BitVec 8) : Statement (.thumbAddSp rd imm8) := by
  intro _
  simp [encode, encodeT38, isThumb32Prefix, BitVec.extractLsb'_or, extract_place_off]
theorem thumbAddSpImm7 (imm7 : BitVec 7) : Statement (.thumbAddSpImm7 imm7) := by
  intro _
  simp [encode, isThumb32Prefix, BitVec.extractLsb'_or, extract_place_off]
theorem thumbSubSpImm7 (imm7 : BitVec 7) : Statement (.thumbSubSpImm7 imm7) := by
  intro _
  simp [encode, isThumb32Prefix, BitVec.extractLsb'_or, extract_place_off]
theorem thumbPush (r : Bool) (list : BitVec 8) : Statement (.thumbPush r list) := by
  intro _
  simp [encode, placeBit, isThumb32Prefix, BitVec.extractLsb'_or, extract_place_off]
theorem thumbPop (r : Bool) (list : BitVec 8) : Statement (.thumbPop r list) := by
  intro _
  simp [encode, placeBit, isThumb32Prefix, BitVec.extractLsb'_or, extract_place_off]
theorem thumbStmia (rn : LowReg) (list : BitVec 8) : Statement (.thumbStmia rn list) := by
  intro _
  simp [encode, encodeT38, isThumb32Prefix, BitVec.extractLsb'_or, extract_place_off]
theorem thumbLdmia (rn : LowReg) (list : BitVec 8) : Statement (.thumbLdmia rn list) := by
  intro _
  simp [encode, encodeT38, isThumb32Prefix, BitVec.extractLsb'_or, extract_place_off]
theorem thumbBkpt (imm8 : BitVec 8) : Statement (.thumbBkpt imm8) := by
  intro _
  simp [encode, isThumb32Prefix, BitVec.extractLsb'_or, extract_place_off]
theorem thumbUndefined (h : Half) : Statement (.thumbUndefined h) := by
  intro hw
  have hw : undefinedThumbHalf h = true := by simpa [Instr.wellFormed, Instr.condOk, Instr.condOf, Instr.formOk] using hw
  have h4 : ∀ s l (t : BitVec l), h.extractLsb' s l = t → ∀ j, j < l → h.getLsbD (s + j) = t.getLsbD j := by
    rintro s l t rfl j hj
    simp [hj]
  have hb : h.getLsbD 13 = false ∨ h.getLsbD 14 = false ∨ (h.getLsbD 11 = true ∧ h.getLsbD 12 = true ∧ h.getLsbD 13 = false)
      ∨ (h.getLsbD 11 = true ∧ h.getLsbD 13 = false) ∨ (h.getLsbD 13 = false) := by
    unfold undefinedThumbHalf at hw
    simp only [Bool.or_eq_true, Bool.and_eq_true, beq_iff_eq] at hw
    rcases hw with hw | ⟨hw, _⟩
    · exact .inl (h4 8 8 _ hw 5 (by omega))
    · exact .inr (.inl (h4 12 4 _ hw 2 (by omega)))
  show isThumb32Prefix h = false
  rw [Bool.eq_false_iff]
  intro hp
  unfold isThumb32Prefix at hp
  simp only [Bool.or_eq_true, beq_iff_eq] at hp
  have h13 : h.getLsbD 13 = true := by
    rcases hp with (hp | hp) | hp <;> exact h4 11 5 _ hp 2 (by omega)
  have h14 : h.getLsbD 14 = true := by
    rcases hp with (hp | hp) | hp <;> exact h4 11 5 _ hp 3 (by omega)
  simp_all
theorem thumbSwi (imm8 : BitVec 8) : Statement (.thumbSwi imm8) := by
  intro _
  simp [encode, isThumb32Prefix, BitVec.extractLsb'_or, extract_place_off]
theorem thumbBCond (c : Cond) (imm8 : BitVec 8) : Statement (.thumbBCond c imm8) := by
  intro _
  cases c <;> simp [encode, isThumb32Prefix, BitVec.extractLsb'_or, extract_place_off, Cond.bits] <;> decide
theorem thumbB (imm11 : BitVec 11) : Statement (.thumbB imm11) := by
  intro _
  simp [encode, isThumb32Prefix, BitVec.extractLsb'_or, extract_place_off]
theorem thumb32Bl (s : Bool) (imm10 : BitVec 10) (j1 : Bool) (j2 : Bool) (imm11 : BitVec 11) :
    Statement (.thumb32Bl s imm10 j1 j2 imm11) := by
  intro _
  refine (prefix_of_word rfl).trans ?_
  simp [encodeT2Branch, placeBit, BitVec.extractLsb'_or, extract_place_off]
theorem thumb32BlxImm (s : Bool) (imm10H : BitVec 10) (j1 : Bool) (j2 : Bool) (imm10L : BitVec 10) (h : Bool) :
    Statement (.thumb32BlxImm s imm10H j1 j2 imm10L h) := by
  intro _
  refine (prefix_of_word rfl).trans ?_
  simp [placeBit, BitVec.extractLsb'_or, extract_place_off]
theorem thumb32BT4 (s : Bool) (imm10 : BitVec 10) (j1 : Bool) (j2 : Bool) (imm11 : BitVec 11) :
    Statement (.thumb32BT4 s imm10 j1 j2 imm11) := by
  intro _
  refine (prefix_of_word rfl).trans ?_
  simp [encodeT2Branch, placeBit, BitVec.extractLsb'_or, extract_place_off]
theorem thumb32Udf (imm4 : BitVec 4) (imm12 : BitVec 12) : Statement (.thumb32Udf imm4 imm12) := by
  intro _
  refine (prefix_of_word rfl).trans ?_
  simp [BitVec.extractLsb'_or, extract_place_off]
theorem thumb32Smc (imm4 : BitVec 4) (free12 : BitVec 12) : Statement (.thumb32Smc imm4 free12) := by
  intro _
  refine (prefix_of_word rfl).trans ?_
  simp [BitVec.extractLsb'_or, extract_place_off]
theorem thumb32Msr (free5 : BitVec 5) (free13 : Bool) (free12 : BitVec 12) :
    Statement (.thumb32Msr free5 free13 free12) := by
  intro _
  refine (prefix_of_word rfl).trans ?_
  simp [encodeT2Misc, placeBit, BitVec.extractLsb'_or, extract_place_off]
theorem thumb32Hint (free4 : BitVec 4) (free13 : Bool) (free12 : BitVec 12) :
    Statement (.thumb32Hint free4 free13 free12) := by
  intro _
  refine (prefix_of_word rfl).trans ?_
  simp [encodeT2Misc, placeBit, BitVec.extractLsb'_or, extract_place_off]
theorem thumb32MiscCtl (free4 : BitVec 4) (free13 : Bool) (free12 : BitVec 12) :
    Statement (.thumb32MiscCtl free4 free13 free12) := by
  intro _
  refine (prefix_of_word rfl).trans ?_
  simp [encodeT2Misc, placeBit, BitVec.extractLsb'_or, extract_place_off]
theorem thumb32Bxj (free4 : BitVec 4) (free13 : Bool) (free12 : BitVec 12) :
    Statement (.thumb32Bxj free4 free13 free12) := by
  intro _
  refine (prefix_of_word rfl).trans ?_
  simp [encodeT2Misc, placeBit, BitVec.extractLsb'_or, extract_place_off]
theorem thumb32SubsPcLr (free4 : BitVec 4) (free13 : Bool) (free12 : BitVec 12) :
    Statement (.thumb32SubsPcLr free4 free13 free12) := by
  intro _
  refine (prefix_of_word rfl).trans ?_
  simp [encodeT2Misc, placeBit, BitVec.extractLsb'_or, extract_place_off]
theorem thumb32Mrs (free5 : BitVec 5) (free13 : Bool) (free12 : BitVec 12) :
    Statement (.thumb32Mrs free5 free13 free12) := by
  intro _
  refine (prefix_of_word rfl).trans ?_
  simp [encodeT2Misc, placeBit, BitVec.extractLsb'_or, extract_place_off]
theorem thumb32BrMiscUndef (opm : BitVec 3) (free4 : BitVec 4) (free13 : Bool) (free12 : BitVec 12) :
    Statement (.thumb32BrMiscUndef opm free4 free13 free12) := by
  intro _
  refine (prefix_of_word rfl).trans ?_
  simp [placeBit, BitVec.extractLsb'_or, extract_place_off]
theorem thumb32BT3 (s : Bool) (cond : BitVec 4) (imm6 : BitVec 6) (j1 : Bool) (j2 : Bool) (imm11 : BitVec 11) :
    Statement (.thumb32BT3 s cond imm6 j1 j2 imm11) := by
  intro _
  refine (prefix_of_word rfl).trans ?_
  simp [placeBit, BitVec.extractLsb'_or, extract_place_off]
theorem thumb32DpImm (free11 : BitVec 11) (free15 : BitVec 15) : Statement (.thumb32DpImm free11 free15) := by
  intro _
  refine (prefix_of_word rfl).trans ?_
  simp [BitVec.extractLsb'_or, extract_place_off]
theorem thumb32Space01 (free27 : BitVec 27) : Statement (.thumb32Space01 free27) := by
  intro _
  refine (prefix_of_word rfl).trans ?_
  simp [BitVec.extractLsb'_or, extract_place_off]
theorem thumb32Space11 (free27 : BitVec 27) : Statement (.thumb32Space11 free27) := by
  intro _
  refine (prefix_of_word rfl).trans ?_
  simp [BitVec.extractLsb'_or, extract_place_off]

end Sys2Proof.Laws.FetchLength
end

