-- ==== Sys2Proof/Tests/Slice0.lean ====
section
/-! SUPPORT. Tests: ill-formed instructions refused, the words of spec/30_encoding.md and spec/opcode_table.json
decoded, single steps of spec/95_test_vectors.md, and a witness for the hypotheses of each obligation. -/

namespace Sys2Proof.Tests

open Sys2Proof.Machine

-- One theorem after another: Lean's thread for each of them would need a stack of its own.
set_option Elab.async false

/-! ## Helpers -/

/-- A state at an address with a CPSR and register values of its mode, nothing pending, and memory all zero. -/
def base (cpsr pc : Word) (rs : List (RegNum × Word)) : State :=
  rs.foldl (fun s r => s.setReg r.1 r.2) { State.reset with pending := Pending.empty, cpsr := cpsr, pc := pc }

/-- The state with a cell of any bank set. -/
def setCell (p : PhysReg) (v : Word) (s : State) : State := { s with regs := s.regs.set p v }

/-- The state with an SPSR set. -/
def setSpsr (b : Bank) (v : Word) (s : State) : State := { s with spsr := s.spsr.set b v }

/-- The state with a word of memory set. -/
def poke (a v : Word) (s : State) : State := { s with mem := s.mem.write .word a v }

/-- The state with an ARM word at the PC. -/
def arm (w : Word) (s : State) : State := poke s.pc w s

/-- The state with a Thumb halfword at the PC. -/
def thumb (h : Half) (s : State) : State := { s with mem := s.mem.write .half s.pc (h.setWidth 32) }

/-- The state with a 32-bit Thumb instruction, first halfword high, at the PC. -/
def thumb32 (w : Word) (s : State) : State :=
  { s with mem := (s.mem.write .half s.pc (w >>> 16)).write .half (s.pc + 2#32) w }

/-- A cell of any bank. -/
def cell (p : PhysReg) (s : State) : Word := s.regs.get p

/-- The outcome is a next state with a property. -/
def after (o : Host.Outcome State Fault Refusal) (p : State → Bool) : Bool :=
  match o with
  | .next t => p t
  | .fault _ => false
  | .refused _ => false

/-- The outcome is the stop Fatal. -/
def faults (o : Host.Outcome State Fault Refusal) : Bool :=
  match o with
  | .next _ => false
  | .fault _ => true
  | .refused _ => false

/-- The outcome is the stop Unsupported. -/
def unsupported (o : Host.Outcome State Fault Refusal) : Bool :=
  match o with
  | .refused (.unsupported _) => true
  | _ => false

/-- The outcome is the stop Unpredictable. -/
def unpredictable (o : Host.Outcome State Fault Refusal) : Bool :=
  match o with
  | .refused (.unpredictable _) => true
  | _ => false

/-- Every word of a list decodes to the instruction beside it. -/
def decodesTo (l : List (Code × Instr)) : Bool := l.all fun p => decide (decode p.1 = .ok p.2)

/-! ## Ill-formed instructions -/

/-- Condition 1111 is no condition of a conditional instruction (R305). -/
theorem test_wf_cond_nv : (Instr.armAnd .nv false 0#4 0#4 (.imm 0#4 0#8)).wellFormed = false := by decide

/-- Conditions 1110 and 1111 of the Thumb branch are other rows (R820). -/
theorem test_wf_thumb_cond :
    (Instr.thumbBCond .al 0#8).wellFormed = false ∧ (Instr.thumbBCond .nv 0#8).wellFormed = false := by decide

/-- A word that a row of the table claims is not UNDEFINED. -/
theorem test_wf_arm_undefined : (Instr.armUndefined 0xE0910002#32).wellFormed = false := by decide +kernel

/-- A halfword that a row of the table claims is not UNDEFINED. -/
theorem test_wf_thumb_undefined : (Instr.thumbUndefined 0x4480#16).wellFormed = false := by decide +kernel

/-- LDC, STC and their second forms with P = U = W = 0 are other rows. -/
theorem test_wf_ldc_stc :
    [Instr.armLdc .al false false true false 0#4 0#4 15#4 0#8, .armStc .al false false false false 0#4 0#4 15#4 0#8,
      .armLdc2 false false true false 0#4 0#4 15#4 0#8, .armStc2 false false false false 0#4 0#4 15#4 0#8].all
      (fun i => !i.wellFormed) = true := by decide

/-- Bits [22:20] = 111 are the row of UDF and SMC. -/
theorem test_wf_branch_misc : (Instr.thumb32BrMiscUndef 7#3 0#4 false 0#12).wellFormed = false := by decide

/-- Conditions 1110 and 1111 of the 32-bit Thumb B are other rows. -/
theorem test_wf_thumb32_b :
    (Instr.thumb32BT3 false 14#4 0#6 true true 0#11).wellFormed = false
      ∧ (Instr.thumb32BT3 false 15#4 0#6 true true 0#11).wellFormed = false := by decide

/-! ## Decoding

Each word is written out from the fixed bits and the field places of its row of spec/opcode_table.json. -/

theorem test_bits_data_processing :
    decode (.arm (0b0101#4 ++ 0b0000000#7 ++ 0b0011010110100001#16 ++ 0b0#1
      ++ 0b1000#4)) = .ok (.armAnd .pl false 6#4 11#4 (.immShift 8#4 .lsr 8#5)) := by
  decide +kernel

theorem test_decode_data_processing_1 :
    decodesTo [
      (.arm 0x5006B428#32, .armAnd .pl false 6#4 11#4 (.immShift 8#4 .lsr 8#5)),
      (.arm 0x201E0D37#32, .armAnd .cs true 14#4 0#4 (.regShift 7#4 .lsr 13#4)),
      (.arm 0x6213270E#32, .armAnd .vs true 3#4 2#4 (.imm 7#4 14#8)),
      (.arm 0xA023A440#32, .armEor .ge false 3#4 10#4 (.immShift 0#4 .asr 8#5)),
      (.arm 0x003C7F50#32, .armEor .eq true 12#4 7#4 (.regShift 0#4 .asr 15#4)),
      (.arm 0x122B2F33#32, .armEor .ne false 11#4 2#4 (.imm 15#4 51#8)),
      (.arm 0xD05F0824#32, .armSub .le true 15#4 0#4 (.immShift 4#4 .lsr 16#5)),
      (.arm 0x804F903B#32, .armSub .hi false 15#4 9#4 (.regShift 11#4 .lsr 0#4)),
      (.arm 0x1258E811#32, .armSub .ne true 8#4 14#4 (.imm 8#4 17#8)),
      (.arm 0x507DC9E8#32, .armRsb .pl true 13#4 12#4 (.immShift 8#4 .ror 19#5)),
      (.arm 0x9071985D#32, .armRsb .ls true 1#4 9#4 (.regShift 13#4 .asr 8#4)),
      (.arm 0x02790475#32, .armRsb .eq true 9#4 0#4 (.imm 4#4 117#8)),
      (.arm 0xE0825D84#32, .armAdd .al false 2#4 5#4 (.immShift 4#4 .lsl 27#5)),
      (.arm 0x80874E75#32, .armAdd .hi false 7#4 4#4 (.regShift 5#4 .ror 14#4)),
      (.arm 0x329675CC#32, .armAdd .cc true 6#4 7#4 (.imm 5#4 204#8)),
      (.arm 0x00B950C8#32, .armAdc .eq true 9#4 5#4 (.immShift 8#4 .asr 1#5)),
      (.arm 0x10A0A35A#32, .armAdc .ne false 0#4 10#4 (.regShift 10#4 .asr 3#4)),
      (.arm 0x62A3675A#32, .armAdc .vs false 3#4 6#4 (.imm 7#4 90#8)),
      (.arm 0x60CD548B#32, .armSbc .vs false 13#4 5#4 (.immShift 11#4 .lsl 9#5)),
      (.arm 0x10C20B1F#32, .armSbc .ne false 2#4 0#4 (.regShift 15#4 .lsl 11#4)),
      (.arm 0x32DC1724#32, .armSbc .cc true 12#4 1#4 (.imm 7#4 36#8)),
      (.arm 0x10F8F7C9#32, .armRsc .ne true 8#4 15#4 (.immShift 9#4 .asr 15#5)),
      (.arm 0x80F16E5E#32, .armRsc .hi true 1#4 6#4 (.regShift 14#4 .asr 14#4)),
      (.arm 0x62ED4A26#32, .armRsc .vs false 13#4 4#4 (.imm 10#4 38#8))] = true := by
  decide +kernel

theorem test_decode_data_processing_2 :
    decodesTo [
      (.arm 0x0111DDA6#32, .armTst .eq 1#4 13#4 (.immShift 6#4 .lsr 27#5)),
      (.arm 0xD11C943F#32, .armTst .le 12#4 9#4 (.regShift 15#4 .lsr 4#4)),
      (.arm 0x931192CF#32, .armTst .ls 1#4 9#4 (.imm 2#4 207#8)),
      (.arm 0x11317C23#32, .armTeq .ne 1#4 7#4 (.immShift 3#4 .lsr 24#5)),
      (.arm 0x31363059#32, .armTeq .cc 6#4 3#4 (.regShift 9#4 .asr 0#4)),
      (.arm 0xA330B338#32, .armTeq .ge 0#4 11#4 (.imm 3#4 56#8)),
      (.arm 0xA15F76A5#32, .armCmp .ge 15#4 7#4 (.immShift 5#4 .lsr 13#5)),
      (.arm 0x915F4871#32, .armCmp .ls 15#4 4#4 (.regShift 1#4 .ror 8#4)),
      (.arm 0x035630F1#32, .armCmp .eq 6#4 3#4 (.imm 0#4 241#8)),
      (.arm 0x917D04CF#32, .armCmn .ls 13#4 0#4 (.immShift 15#4 .asr 9#5)),
      (.arm 0x91760A75#32, .armCmn .ls 6#4 0#4 (.regShift 5#4 .ror 10#4)),
      (.arm 0x637CDA14#32, .armCmn .vs 12#4 13#4 (.imm 10#4 20#8)),
      (.arm 0x0191E28C#32, .armOrr .eq true 1#4 14#4 (.immShift 12#4 .lsl 5#5)),
      (.arm 0x3198D110#32, .armOrr .cc true 8#4 13#4 (.regShift 0#4 .lsl 1#4)),
      (.arm 0x038CD7B0#32, .armOrr .eq false 12#4 13#4 (.imm 7#4 176#8)),
      (.arm 0x81A1972E#32, .armMov .hi false 1#4 9#4 (.immShift 14#4 .lsr 14#5)),
      (.arm 0xD1A4965B#32, .armMov .le false 4#4 9#4 (.regShift 11#4 .asr 6#4)),
      (.arm 0x23B7BEAD#32, .armMov .cs true 7#4 11#4 (.imm 14#4 173#8)),
      (.arm 0x41C3D586#32, .armBic .mi false 3#4 13#4 (.immShift 6#4 .lsl 11#5)),
      (.arm 0x61CCB252#32, .armBic .vs false 12#4 11#4 (.regShift 2#4 .asr 2#4)),
      (.arm 0x23CDE6A4#32, .armBic .cs false 13#4 14#4 (.imm 6#4 164#8)),
      (.arm 0x81EA63EC#32, .armMvn .hi false 10#4 6#4 (.immShift 12#4 .ror 7#5)),
      (.arm 0x11E7A150#32, .armMvn .ne false 7#4 10#4 (.regShift 0#4 .asr 1#4)),
      (.arm 0x93E76658#32, .armMvn .ls false 7#4 6#4 (.imm 6#4 88#8))] = true := by
  decide +kernel

theorem test_bits_multiply :
    decode (.arm (0b0100#4 ++ 0b0000000#7 ++ 0b1#1 ++ 0b1000#4 ++ 0b1010#4 ++ 0b1010#4 ++ 0b1001#4
      ++ 0b1000#4)) = .ok (.armMul .mi true 8#4 10#4 10#4 8#4) := by
  decide +kernel

theorem test_decode_multiply_1 :
    decodesTo [
      (.arm 0x4018AA98#32, .armMul .mi true 8#4 10#4 10#4 8#4),
      (.arm 0x802D0598#32, .armMla .hi false 13#4 0#4 5#4 8#4),
      (.arm 0xD08DA89F#32, .armUmull .le false 13#4 10#4 8#4 15#4),
      (.arm 0xA0B7BA94#32, .armUmlal .ge true 7#4 11#4 10#4 4#4),
      (.arm 0x20C4159B#32, .armSmull .cs false 4#4 1#4 5#4 11#4),
      (.arm 0x10E1DB92#32, .armSmlal .ne false 1#4 13#4 11#4 2#4),
      (.arm 0x9103BF81#32, .armSmlaxy .ls 3#4 11#4 15#4 false false 1#4),
      (.arm 0x912A73C9#32, .armSmlawy .ls 10#4 7#4 3#4 true 9#4),
      (.arm 0xA12FD5E7#32, .armSmulwy .ge 15#4 13#4 5#4 true 7#4),
      (.arm 0x314850C5#32, .armSmlalxy .cc 8#4 5#4 0#4 true false 5#4),
      (.arm 0x51657283#32, .armSmulxy .pl 5#4 7#4 2#4 false false 3#4),
      (.arm 0x11013552#32, .armQadd .ne 1#4 3#4 5#4 2#4),
      (.arm 0x8128FB59#32, .armQsub .hi 8#4 15#4 11#4 9#4),
      (.arm 0xB14CE452#32, .armQdadd .lt 12#4 14#4 4#4 2#4),
      (.arm 0x1162F057#32, .armQdsub .ne 2#4 15#4 0#4 7#4)] = true := by
  decide +kernel

theorem test_bits_load_store :
    decode (.arm (0b1001#4 ++ 0b0101#4 ++ 0b0#1 ++ 0b0#1 ++ 0b1#1 ++ 0b1#1
      ++ 0b10100111000011000011#20)) = .ok (.armLdr .ls false .preIndexed 10#4 7#4 (.imm 195#12)) := by
  decide +kernel

theorem test_decode_load_store_1 :
    decodesTo [
      (.arm 0x953A70C3#32, .armLdr .ls false .preIndexed 10#4 7#4 (.imm 195#12)),
      (.arm 0x041205B4#32, .armLdr .eq false .postIndexed 2#4 0#4 (.imm 1460#12)),
      (.arm 0x973769A1#32, .armLdr .ls false .preIndexed 7#4 6#4 (.reg 1#4 .lsr 19#5)),
      (.arm 0x3699B5CF#32, .armLdr .cc true .postIndexed 9#4 11#4 (.reg 15#4 .asr 11#5)),
      (.arm 0x75050524#32, .armStr .vc false .offset 5#4 0#4 (.imm 1316#12)),
      (.arm 0xA40EB154#32, .armStr .ge false .postIndexed 14#4 11#4 (.imm 340#12)),
      (.arm 0x870ED162#32, .armStr .hi false .offset 14#4 13#4 (.reg 2#4 .ror 2#5)),
      (.arm 0x6606B06E#32, .armStr .vs false .postIndexed 6#4 11#4 (.reg 14#4 .ror 0#5)),
      (.arm 0xC5F87718#32, .armLdrb .gt true .preIndexed 8#4 7#4 (.imm 1816#12)),
      (.arm 0x545BF2EF#32, .armLdrb .pl false .postIndexed 11#4 15#4 (.imm 751#12)),
      (.arm 0x7771AF00#32, .armLdrb .vc false .preIndexed 1#4 10#4 (.reg 0#4 .lsl 30#5)),
      (.arm 0x96D761C1#32, .armLdrb .ls true .postIndexed 7#4 6#4 (.reg 1#4 .asr 3#5)),
      (.arm 0xE566A787#32, .armStrb .al false .preIndexed 6#4 10#4 (.imm 1927#12)),
      (.arm 0x7443E430#32, .armStrb .vc false .postIndexed 3#4 14#4 (.imm 1072#12)),
      (.arm 0x57C0A948#32, .armStrb .pl true .offset 0#4 10#4 (.reg 8#4 .asr 18#5)),
      (.arm 0x46CD87AD#32, .armStrb .mi true .postIndexed 13#4 8#4 (.reg 13#4 .lsr 15#5)),
      (.arm 0x34B8E277#32, .armLdrt .cc true 8#4 14#4 (.imm 631#12)),
      (.arm 0xC63C7427#32, .armLdrt .gt false 12#4 7#4 (.reg 7#4 .lsr 8#5)),
      (.arm 0x2425319A#32, .armStrt .cs false 5#4 3#4 (.imm 410#12)),
      (.arm 0xB6A14C84#32, .armStrt .lt true 1#4 4#4 (.reg 4#4 .lsl 25#5)),
      (.arm 0xC4F2EA20#32, .armLdrbt .gt true 2#4 14#4 (.imm 2592#12)),
      (.arm 0x367D1BEB#32, .armLdrbt .cc false 13#4 1#4 (.reg 11#4 .ror 23#5)),
      (.arm 0x14E4733F#32, .armStrbt .ne true 4#4 7#4 (.imm 831#12)),
      (.arm 0x966D6EAF#32, .armStrbt .ls false 13#4 6#4 (.reg 15#4 .lsr 29#5))] = true := by
  decide +kernel

theorem test_decode_load_store_2 :
    decodesTo [
      (.arm 0x40DD20B5#32, .armLdrh .mi false true false 13#4 2#4 (.imm 5#8)),
      (.arm 0x803347B1#32, .armLdrh .hi false false true 3#4 4#4 (.reg 7#4 1#4)),
      (.arm 0x70EFF2B6#32, .armStrh .vc false true true 15#4 15#4 (.imm 38#8)),
      (.arm 0xE00902B7#32, .armStrh .al false false false 9#4 0#4 (.reg 2#4 7#4)),
      (.arm 0x51FE05DD#32, .armLdrsb .pl true true true 14#4 0#4 (.imm 93#8)),
      (.arm 0xB0BCEDD0#32, .armLdrsb .lt false true true 12#4 14#4 (.reg 13#4 0#4)),
      (.arm 0x70F6CCFA#32, .armLdrsh .vc false true true 6#4 12#4 (.imm 202#8)),
      (.arm 0x41B64AF8#32, .armLdrsh .mi true true true 6#4 4#4 (.reg 10#4 8#4)),
      (.arm 0x91E4BCDC#32, .armLdrd .ls true true true 4#4 11#4 (.imm 204#8)),
      (.arm 0x10AD4ADE#32, .armLdrd .ne false true true 13#4 4#4 (.reg 10#4 14#4)),
      (.arm 0x10698FF0#32, .armStrd .ne false false true 9#4 8#4 (.imm 240#8)),
      (.arm 0x810E07FC#32, .armStrd .hi true false false 14#4 0#4 (.reg 7#4 12#4)),
      (.arm 0x610A1898#32, .armSwp .vs 10#4 1#4 8#4 8#4),
      (.arm 0x214AF494#32, .armSwpb .cs 10#4 15#4 4#4 4#4),
      (.arm 0xF5D3FCFF#32, .armPldImm true 3#4 15#4 3327#12),
      (.arm 0xF7D0F82E#32, .armPldReg true 0#4 15#4 16#5 .lsr 14#4)] = true := by
  decide +kernel

theorem test_bits_block :
    decode (.arm (0b0010#4 ++ 0b100#3 ++ 0b01#2 ++ 0b0#1 ++ 0b1#1 ++ 0b1#1
      ++ 0b10000111010101010101#20)) = .ok (.armLdm1 .cs false true true 8#4 30037#16) := by
  decide +kernel

theorem test_decode_block_1 :
    decodesTo [
      (.arm 0x28B87555#32, .armLdm1 .cs false true true 8#4 30037#16),
      (.arm 0xE8FA4BE2#32, .armLdm2 .al false true true 10#4 19426#15),
      (.arm 0x797CAF82#32, .armLdm3 .vc true false true 12#4 12162#15),
      (.arm 0x69A46C69#32, .armStm1 .vs true true true 4#4 27753#16),
      (.arm 0x08497C97#32, .armStm2 .eq false false false 9#4 31895#16)] = true := by
  decide +kernel

theorem test_bits_branch :
    decode (.arm (0b1010#4 ++ 0b1010#4 ++ 0b000100000011000111010000#24)) = .ok (.armB .ge 1061328#24) := by
  decide +kernel

theorem test_decode_branch_1 :
    decodesTo [
      (.arm 0xAA1031D0#32, .armB .ge 1061328#24),
      (.arm 0x1BDEEF86#32, .armBl .ne 14610310#24),
      (.arm 0xC12AEA1E#32, .armBx .gt 2794#12 14#4),
      (.arm 0xFADE0D7A#32, .armBlxImm false 14552442#24),
      (.arm 0x9121D332#32, .armBlxReg .ls 467#12 2#4)] = true := by
  decide +kernel

theorem test_bits_status :
    decode (.arm (0b1100#4 ++ 0b00010#5 ++ 0b0#1 ++ 0b00#2 ++ 0b0010#4 ++ 0b0001#4 ++ 0b0011#4 ++ 0b0000#4
      ++ 0b1110#4)) = .ok (.armMrs .gt false 2#4 1#4 3#4 14#4) := by
  decide +kernel

theorem test_decode_status_1 :
    decodesTo [
      (.arm 0xC102130E#32, .armMrs .gt false 2#4 1#4 3#4 14#4),
      (.arm 0xE12F5007#32, .armMsrReg .al false 15#4 80#8 7#4),
      (.arm 0xD36F9ACA#32, .armMsrImm .le true 15#4 9#4 10#4 202#8),
      (.arm 0x5161C11C#32, .armClz .pl 1#4 12#4 1#4 12#4),
      (.arm 0x51224272#32, .armBkpt .pl 578#12 2#4),
      (.arm 0xBFFEE08F#32, .armSwi .lt 16703631#24),
      (.arm 0xF9A54A7B#32, .armUndefined 0xF9A54A7B#32),
      (.arm 0xCC011CDD#32, .armUndefined 0xCC011CDD#32)] = true := by
  decide +kernel

theorem test_bits_coprocessor :
    decode (.arm (0b0111#4 ++ 0b1110#4 ++ 0b110#3 ++ 0b0#1 ++ 0b100111011111011#15 ++ 0b1#1
      ++ 0b1010#4)) = .ok (.armMcr .vc 6#3 9#4 13#4 15#4 3#3 10#4) := by
  decide +kernel

theorem test_decode_coprocessor_1 :
    decodesTo [
      (.arm 0x7EC9DF7A#32, .armMcr .vc 6#3 9#4 13#4 15#4 3#3 10#4),
      (.arm 0x1E9A72D1#32, .armMrc .ne 4#3 10#4 7#4 2#4 6#3 1#4),
      (.arm 0xDE0820EE#32, .armCdp .le 0#4 8#4 2#4 0#4 7#3 14#4),
      (.arm 0x1DF5E837#32, .armLdc .ne true true true true 5#4 14#4 8#4 55#8),
      (.arm 0x4C3ABD81#32, .armLdc .mi false false false true 10#4 11#4 13#4 129#8),
      (.arm 0x7CDE8229#32, .armLdc .vc false true true false 14#4 8#4 2#4 41#8),
      (.arm 0xBD615945#32, .armStc .lt true false true true 1#4 5#4 9#4 69#8),
      (.arm 0xAC25E11A#32, .armStc .ge false false false true 5#4 14#4 1#4 26#8),
      (.arm 0x1C83D6B2#32, .armStc .ne false true false false 3#4 13#4 6#4 178#8),
      (.arm 0x0C48080B#32, .armMcrr .eq 8#4 0#4 8#4 0#4 11#4),
      (.arm 0xBC5D420F#32, .armMrrc .lt 13#4 4#4 2#4 0#4 15#4),
      (.arm 0xFE94FB26#32, .armCdp2 9#4 4#4 15#4 11#4 1#3 6#4),
      (.arm 0xFD526DCB#32, .armLdc2 true false true false 2#4 6#4 13#4 203#8),
      (.arm 0xFCBA3C81#32, .armLdc2 false true false true 10#4 3#4 12#4 129#8),
      (.arm 0xFCD448B3#32, .armLdc2 false true true false 4#4 4#4 8#4 179#8),
      (.arm 0xFD2B890B#32, .armStc2 true false false true 11#4 8#4 9#4 11#8),
      (.arm 0xFC658F33#32, .armStc2 false false true true 5#4 8#4 15#4 51#8),
      (.arm 0xFCC9A9A5#32, .armStc2 false true true false 9#4 10#4 9#4 165#8),
      (.arm 0xFE058370#32, .armMcr2 0#3 5#4 8#4 3#4 3#3 0#4),
      (.arm 0xFEDB40BF#32, .armMrc2 6#3 11#4 4#4 0#4 5#3 15#4)] = true := by
  decide +kernel

theorem test_bits_thumb_alu :
    decode (.thumb (0b00000#5 ++ 0b11101#5 ++ 0b110#3 ++ 0b100#3)) = .ok (.thumbLslImm 29#5 6#3 4#3) := by
  decide +kernel

theorem test_decode_thumb_alu_1 :
    decodesTo [
      (.thumb 0x0774#16, .thumbLslImm 29#5 6#3 4#3),
      (.thumb 0x0AC3#16, .thumbLsrImm 11#5 0#3 3#3),
      (.thumb 0x1315#16, .thumbAsrImm 12#5 2#3 5#3),
      (.thumb 0x192C#16, .thumbAddReg 4#3 5#3 4#3),
      (.thumb 0x1AD5#16, .thumbSubReg 3#3 2#3 5#3),
      (.thumb 0x1DC6#16, .thumbAddImm3 7#3 0#3 6#3),
      (.thumb 0x1ECE#16, .thumbSubImm3 3#3 1#3 6#3),
      (.thumb 0x2631#16, .thumbMovImm 6#3 49#8),
      (.thumb 0x2AFF#16, .thumbCmpImm 2#3 255#8),
      (.thumb 0x3305#16, .thumbAddImm8 3#3 5#8),
      (.thumb 0x3C65#16, .thumbSubImm8 4#3 101#8),
      (.thumb 0x4039#16, .thumbAnd 7#3 1#3),
      (.thumb 0x4062#16, .thumbEor 4#3 2#3),
      (.thumb 0x4097#16, .thumbLslReg 2#3 7#3),
      (.thumb 0x40DC#16, .thumbLsrReg 3#3 4#3),
      (.thumb 0x412A#16, .thumbAsrReg 5#3 2#3),
      (.thumb 0x4155#16, .thumbAdc 2#3 5#3),
      (.thumb 0x419C#16, .thumbSbc 3#3 4#3),
      (.thumb 0x41C5#16, .thumbRor 0#3 5#3),
      (.thumb 0x4223#16, .thumbTst 4#3 3#3),
      (.thumb 0x425C#16, .thumbNeg 3#3 4#3),
      (.thumb 0x4295#16, .thumbCmpReg 2#3 5#3),
      (.thumb 0x42F4#16, .thumbCmn 6#3 4#3),
      (.thumb 0x4315#16, .thumbOrr 2#3 5#3)] = true := by
  decide +kernel

theorem test_decode_thumb_alu_2 :
    decodesTo [
      (.thumb 0x435B#16, .thumbMul 3#3 3#3),
      (.thumb 0x43A0#16, .thumbBic 4#3 0#3),
      (.thumb 0x43D6#16, .thumbMvn 2#3 6#3),
      (.thumb 0x44FD#16, .thumbAddHi true true 7#3 5#3),
      (.thumb 0x45D2#16, .thumbCmpHi true true 2#3 2#3),
      (.thumb 0x46A8#16, .thumbMovHi true false 5#3 0#3),
      (.thumb 0x4720#16, .thumbBx false 4#3 0#3),
      (.thumb 0x47A5#16, .thumbBlxReg false 4#3 5#3),
      (.thumb 0x4B0D#16, .thumbLdrPc 3#3 13#8),
      (.thumb 0x51BC#16, .thumbStrReg 6#3 7#3 4#3),
      (.thumb 0x5236#16, .thumbStrhReg 0#3 6#3 6#3),
      (.thumb 0x552E#16, .thumbStrbReg 4#3 5#3 6#3),
      (.thumb 0x56DB#16, .thumbLdrsb 3#3 3#3 3#3),
      (.thumb 0x5946#16, .thumbLdrReg 5#3 0#3 6#3),
      (.thumb 0x5AD6#16, .thumbLdrhReg 3#3 2#3 6#3),
      (.thumb 0x5C50#16, .thumbLdrbReg 1#3 2#3 0#3),
      (.thumb 0x5E89#16, .thumbLdrsh 2#3 1#3 1#3),
      (.thumb 0x63D8#16, .thumbStrImm 15#5 3#3 0#3),
      (.thumb 0x6EC6#16, .thumbLdrImm 27#5 0#3 6#3),
      (.thumb 0x725A#16, .thumbStrbImm 9#5 3#3 2#3),
      (.thumb 0x7964#16, .thumbLdrbImm 5#5 4#3 4#3),
      (.thumb 0x852D#16, .thumbStrhImm 20#5 5#3 5#3),
      (.thumb 0x8B12#16, .thumbLdrhImm 12#5 2#3 2#3),
      (.thumb 0x96A2#16, .thumbStrSp 6#3 162#8)] = true := by
  decide +kernel

theorem test_decode_thumb_alu_3 :
    decodesTo [
      (.thumb 0x9D3E#16, .thumbLdrSp 5#3 62#8),
      (.thumb 0xA51C#16, .thumbAddPc 5#3 28#8),
      (.thumb 0xAEBB#16, .thumbAddSp 6#3 187#8),
      (.thumb 0xB061#16, .thumbAddSpImm7 97#7),
      (.thumb 0xB094#16, .thumbSubSpImm7 20#7)] = true := by
  decide +kernel

theorem test_bits_thumb_memory_branch :
    decode (.thumb (0b1011010#7 ++ 0b1#1 ++ 0b10111011#8)) = .ok (.thumbPush true 187#8) := by
  decide +kernel

theorem test_decode_thumb_memory_branch_1 :
    decodesTo [
      (.thumb 0xB5BB#16, .thumbPush true 187#8),
      (.thumb 0xBD16#16, .thumbPop true 22#8),
      (.thumb 0xC426#16, .thumbStmia 4#3 38#8),
      (.thumb 0xCCC2#16, .thumbLdmia 4#3 194#8),
      (.thumb 0xBED0#16, .thumbBkpt 208#8),
      (.thumb 0xDEAE#16, .thumbUndefined 0xDEAE#16),
      (.thumb 0xF3FE#16, .thumbUndefined 0xF3FE#16),
      (.thumb 0xDF20#16, .thumbSwi 32#8),
      (.thumb 0xD0C4#16, .thumbBCond .eq 196#8),
      (.thumb 0xE3F4#16, .thumbB 1012#11)] = true := by
  decide +kernel

theorem test_bits_thumb32 :
    decode (.thumb32 (0b11110#5 ++ 0b0#1 ++ 0b1111110111#10 ++ 0b11#2 ++ 0b1#1 ++ 0b1#1 ++ 0b1#1
      ++ 0b11100010110#11)) = .ok (.thumb32Bl false 1015#10 true true 1814#11) := by
  decide +kernel

theorem test_decode_thumb32_1 :
    decodesTo [
      (.thumb32 0xF3F7FF16#32, .thumb32Bl false 1015#10 true true 1814#11),
      (.thumb32 0xF341E07A#32, .thumb32BlxImm false 833#10 true false 61#10 false),
      (.thumb32 0xF61A9EF4#32, .thumb32BT4 true 538#10 false true 1780#11),
      (.thumb32 0xF7FBA1C2#32, .thumb32Udf 11#4 450#12),
      (.thumb32 0xF7FB82DB#32, .thumb32Smc 11#4 731#12),
      (.thumb32 0xF3828881#32, .thumb32Msr 2#5 false 2177#12),
      (.thumb32 0xF3A2AA65#32, .thumb32Hint 2#4 true 2661#12),
      (.thumb32 0xF3B68A5D#32, .thumb32MiscCtl 6#4 false 2653#12),
      (.thumb32 0xF3C78B8F#32, .thumb32Bxj 7#4 false 2959#12),
      (.thumb32 0xF3D88334#32, .thumb32SubsPcLr 8#4 false 820#12),
      (.thumb32 0xF3EC8491#32, .thumb32Mrs 12#5 false 1169#12),
      (.thumb32 0xF7E08893#32, .thumb32BrMiscUndef 6#3 0#4 false 2195#12),
      (.thumb32 0xF63AAB7F#32, .thumb32BT3 true 8#4 58#6 true true 895#11),
      (.thumb32 0xF44169A3#32, .thumb32DpImm 1089#11 27043#15),
      (.thumb32 0xEF2C6EC8#32, .thumb32Space01 120352456#27),
      (.thumb32 0xFC72F1A3#32, .thumb32Space11 74641827#27)] = true := by
  decide +kernel

/-! ## Single steps of spec/95_test_vectors.md -/

/-- V40.1: ADDS r0, r1, r2: signed overflow. -/
theorem test_V40_1 :
    after (step (arm 0xE0910002#32 (base 0xD3#32 0x8000#32 [(1, 0x7FFFFFFF#32), (2, 0x1#32)])))
    (fun t => cell .r0 t == 0x80000000#32 && t.cpsr == 0x900000D3#32 && t.pc == 0x8004#32) = true := by
  decide +kernel

/-- V40.2: ADDS r0, r1, r2: unsigned carry, zero. -/
theorem test_V40_2 :
    after (step (arm 0xE0910002#32 (base 0xD3#32 0x8000#32 [(1, 0xFFFFFFFF#32), (2, 0x1#32)])))
    (fun t => cell .r0 t == 0x0#32 && t.cpsr == 0x600000D3#32 && t.pc == 0x8004#32) = true := by
  decide +kernel

/-- V40.3: SUBS r0, r1, r2: borrow. -/
theorem test_V40_3 :
    after (step (arm 0xE0510002#32 (base 0xD3#32 0x8000#32 [(1, 0x0#32), (2, 0x1#32)])))
    (fun t => cell .r0 t == 0xFFFFFFFF#32 && t.cpsr == 0x800000D3#32 && t.pc == 0x8004#32) = true := by
  decide +kernel

/-- V40.4: SUBS r0, r1, r1: equal operands. -/
theorem test_V40_4 :
    after (step (arm 0xE0510001#32 (base 0xD3#32 0x8000#32 [(1, 0x1234#32)])))
    (fun t => cell .r0 t == 0x0#32 && t.cpsr == 0x600000D3#32 && t.pc == 0x8004#32) = true := by
  decide +kernel

/-- V40.6: RSBS r0, r1, #0: negate 0x80000000. -/
theorem test_V40_6 :
    after (step (arm 0xE2710000#32 (base 0xD3#32 0x8000#32 [(1, 0x80000000#32)])))
    (fun t => cell .r0 t == 0x80000000#32 && t.cpsr == 0x900000D3#32 && t.pc == 0x8004#32) = true := by
  decide +kernel

/-- V40.7: ADCS r0, r1, r2 with C = 1. -/
theorem test_V40_7 :
    after (step (arm 0xE0B10002#32 (base 0x200000D3#32 0x8000#32 [(1, 0xFFFFFFFF#32), (2, 0x0#32)])))
    (fun t => cell .r0 t == 0x0#32 && t.cpsr == 0x600000D3#32 && t.pc == 0x8004#32) = true := by
  decide +kernel

/-- V40.8: SBCS r0, r1, r2 with C = 0. -/
theorem test_V40_8 :
    after (step (arm 0xE0D10002#32 (base 0xD3#32 0x8000#32 [(1, 0x5#32), (2, 0x5#32)])))
    (fun t => cell .r0 t == 0xFFFFFFFF#32 && t.cpsr == 0x800000D3#32 && t.pc == 0x8004#32) = true := by
  decide +kernel

/-- V40.9: RSCS r0, r1, r2 with C = 1. -/
theorem test_V40_9 :
    after (step (arm 0xE0F10002#32 (base 0x200000D3#32 0x8000#32 [(1, 0x1#32), (2, 0x3#32)])))
    (fun t => cell .r0 t == 0x2#32 && t.cpsr == 0x200000D3#32 && t.pc == 0x8004#32) = true := by
  decide +kernel

/-- V40.10: MOVS r0, #0x80000000 (imm8 2, rot 1): C from bit 31. -/
theorem test_V40_10 :
    after (step (arm 0xE3B00102#32 (base 0xD3#32 0x8000#32 [])))
    (fun t => cell .r0 t == 0x80000000#32 && t.cpsr == 0xA00000D3#32 && t.pc == 0x8004#32) = true := by
  decide +kernel

/-- V40.11: MOVS r0, #1 (rot 0): C unchanged. -/
theorem test_V40_11 :
    after (step (arm 0xE3B00001#32 (base 0x200000D3#32 0x8000#32 [])))
    (fun t => cell .r0 t == 0x1#32 && t.cpsr == 0x200000D3#32 && t.pc == 0x8004#32) = true := by
  decide +kernel

/-- V40.22: ANDS r0, r1, #0xFF: V unchanged. -/
theorem test_V40_22 :
    after (step (arm 0xE21100FF#32 (base 0x100000D3#32 0x8000#32 [(1, 0x12345678#32)])))
    (fun t => cell .r0 t == 0x78#32 && t.cpsr == 0x100000D3#32 && t.pc == 0x8004#32) = true := by
  decide +kernel

/-- V40.23: EOR r0, r1, r2 (no S): flags unchanged. -/
theorem test_V40_23 :
    after (step (arm 0xE0210002#32 (base 0xF00000D3#32 0x8000#32 [(1, 0xFF00#32), (2, 0xFF0#32)])))
    (fun t => cell .r0 t == 0xF0F0#32 && t.cpsr == 0xF00000D3#32 && t.pc == 0x8004#32) = true := by
  decide +kernel

/-- V40.24: TEQ r1, r2: equal values. -/
theorem test_V40_24 :
    after (step (arm 0xE1310002#32 (base 0xD3#32 0x8000#32 [(1, 0x5#32), (2, 0x5#32)])))
    (fun t => t.cpsr == 0x400000D3#32 && t.pc == 0x8004#32) = true := by
  decide +kernel

/-- V40.25: TST r1, #0x80000000 (imm 2, rot 1): C from the rotated immediate. -/
theorem test_V40_25 :
    after (step (arm 0xE3110102#32 (base 0xD3#32 0x8000#32 [(1, 0x80000000#32)])))
    (fun t => t.cpsr == 0xA00000D3#32 && t.pc == 0x8004#32) = true := by
  decide +kernel

/-- V40.26: CMP r1, r2: r1 < r2 unsigned. -/
theorem test_V40_26 :
    after (step (arm 0xE1510002#32 (base 0xD3#32 0x8000#32 [(1, 0x1#32), (2, 0x2#32)])))
    (fun t => t.cpsr == 0x800000D3#32 && t.pc == 0x8004#32) = true := by
  decide +kernel

/-- V40.27: CMN r1, r2: r1 + r2 = 0. -/
theorem test_V40_27 :
    after (step (arm 0xE1710002#32 (base 0xD3#32 0x8000#32 [(1, 0x1#32), (2, 0xFFFFFFFF#32)])))
    (fun t => t.cpsr == 0x600000D3#32 && t.pc == 0x8004#32) = true := by
  decide +kernel

/-- V40.28: ORR r0, r1, r2, LSL #4. -/
theorem test_V40_28 :
    after (step (arm 0xE1810202#32 (base 0xD3#32 0x8000#32 [(1, 0x1#32), (2, 0xF#32)])))
    (fun t => cell .r0 t == 0xF1#32 && t.cpsr == 0xD3#32 && t.pc == 0x8004#32) = true := by
  decide +kernel

/-- V40.29: BIC r0, r1, #0xFF. -/
theorem test_V40_29 :
    after (step (arm 0xE3C100FF#32 (base 0xD3#32 0x8000#32 [(1, 0x12345678#32)])))
    (fun t => cell .r0 t == 0x12345600#32 && t.cpsr == 0xD3#32 && t.pc == 0x8004#32) = true := by
  decide +kernel

/-- V40.30: MVN r0, #0. -/
theorem test_V40_30 :
    after (step (arm 0xE3E00000#32 (base 0xD3#32 0x8000#32 [])))
    (fun t => cell .r0 t == 0xFFFFFFFF#32 && t.cpsr == 0xD3#32 && t.pc == 0x8004#32) = true := by
  decide +kernel

/-- V41.1: MUL r0, r1, r2. -/
theorem test_V41_1 :
    after (step (arm 0xE0000291#32 (base 0xD3#32 0x8000#32 [(1, 0x6#32), (2, 0x7#32)])))
    (fun t => cell .r0 t == 0x2A#32 && t.cpsr == 0xD3#32 && t.pc == 0x8004#32) = true := by
  decide +kernel

/-- V41.2: MULS r0, r1, r2: zero result, C and V kept. -/
theorem test_V41_2 :
    after (step (arm 0xE0100291#32 (base 0x300000D3#32 0x8000#32 [(1, 0x10000#32), (2, 0x10000#32)])))
    (fun t => cell .r0 t == 0x0#32 && t.cpsr == 0x700000D3#32 && t.pc == 0x8004#32) = true := by
  decide +kernel

/-- V41.4: MLA r0, r1, r2, r3. -/
theorem test_V41_4 :
    after (step (arm 0xE0203291#32 (base 0xD3#32 0x8000#32 [(1, 0x3#32), (2, 0x4#32), (3, 0x5#32)])))
    (fun t => cell .r0 t == 0x11#32 && t.cpsr == 0xD3#32 && t.pc == 0x8004#32) = true := by
  decide +kernel

/-- V41.5: UMULL r0, r1, r2, r3: 0xFFFFFFFF squared. -/
theorem test_V41_5 :
    after (step (arm 0xE0810392#32 (base 0xD3#32 0x8000#32 [(2, 0xFFFFFFFF#32), (3, 0xFFFFFFFF#32)])))
    (fun t => cell .r0 t == 0x1#32 && cell .r1 t == 0xFFFFFFFE#32 && t.cpsr == 0xD3#32
      && t.pc == 0x8004#32) = true := by
  decide +kernel

/-- V41.6: SMULL r0, r1, r2, r3: -1 * -1. -/
theorem test_V41_6 :
    after (step (arm 0xE0C10392#32 (base 0xD3#32 0x8000#32 [(2, 0xFFFFFFFF#32), (3, 0xFFFFFFFF#32)])))
    (fun t => cell .r0 t == 0x1#32 && cell .r1 t == 0x0#32 && t.cpsr == 0xD3#32 && t.pc == 0x8004#32) = true := by
  decide +kernel

/-- V41.7: SMULL r0, r1, r2, r3: -2 * 3. -/
theorem test_V41_7 :
    after (step (arm 0xE0C10392#32 (base 0xD3#32 0x8000#32 [(2, 0xFFFFFFFE#32), (3, 0x3#32)])))
    (fun t => cell .r0 t == 0xFFFFFFFA#32 && cell .r1 t == 0xFFFFFFFF#32 && t.cpsr == 0xD3#32
      && t.pc == 0x8004#32) = true := by
  decide +kernel

/-- V41.8: UMLALS r0, r1, r2, r3: 64-bit accumulate to zero. -/
theorem test_V41_8 :
    after (step (arm 0xE0B10392#32 (base 0xD3#32 0x8000#32 [(0, 0xFFFFFFFF#32), (1, 0xFFFFFFFF#32), (2, 0x1#32),
      (3, 0x1#32)])))
    (fun t => cell .r0 t == 0x0#32 && cell .r1 t == 0x0#32 && t.cpsr == 0x400000D3#32
      && t.pc == 0x8004#32) = true := by
  decide +kernel

/-- V41.9: SMLAL r0, r1, r2, r3. -/
theorem test_V41_9 :
    after (step (arm 0xE0E10392#32 (base 0xD3#32 0x8000#32 [(0, 0x1#32), (1, 0x0#32), (2, 0xFFFFFFFF#32),
      (3, 0x2#32)])))
    (fun t => cell .r0 t == 0xFFFFFFFF#32 && cell .r1 t == 0xFFFFFFFF#32 && t.cpsr == 0xD3#32
      && t.pc == 0x8004#32) = true := by
  decide +kernel

/-- V41.12: UMULL r0, r0, r2, r3 (RdHi = RdLo). -/
theorem test_V41_12 :
    unpredictable (step (arm 0xE0800392#32 (base 0xD3#32 0x8000#32 [(2, 0x1#32), (3, 0x1#32)]))) = true := by
  decide +kernel

/-- V41.13: QADD r0, r1, r2. -/
theorem test_V41_13 :
    unsupported (step (arm 0xE1020051#32 (base 0xD3#32 0x8000#32 [(1, 0x1#32), (2, 0x2#32)]))) = true := by
  decide +kernel

/-- V41.14: SMULBB r0, r1, r2. -/
theorem test_V41_14 :
    unsupported (step (arm 0xE1600281#32 (base 0xD3#32 0x8000#32 [(1, 0x1#32), (2, 0x2#32)]))) = true := by
  decide +kernel

/-- V42.1: LDR r0, [r1]: aligned. -/
theorem test_V42_1 :
    after (step (arm 0xE5910000#32 (poke 0x1000#32 0x11223344#32 (base 0xD3#32 0x8000#32 [(1, 0x1000#32)]))))
    (fun t => cell .r0 t == 0x11223344#32 && t.cpsr == 0xD3#32 && t.pc == 0x8004#32) = true := by
  decide +kernel

/-- V42.2: LDR r0, [r1, #1]: misaligned rotates by 8. -/
theorem test_V42_2 :
    after (step (arm 0xE5910001#32 (poke 0x1000#32 0x11223344#32 (base 0xD3#32 0x8000#32 [(1, 0x1000#32)]))))
    (fun t => cell .r0 t == 0x44112233#32 && t.cpsr == 0xD3#32 && t.pc == 0x8004#32) = true := by
  decide +kernel

/-- V42.8: LDRB r0, [r1, #2]. -/
theorem test_V42_8 :
    after (step (arm 0xE5D10002#32 (poke 0x1000#32 0x11223344#32 (base 0xD3#32 0x8000#32 [(1, 0x1000#32)]))))
    (fun t => cell .r0 t == 0x22#32 && t.cpsr == 0xD3#32 && t.pc == 0x8004#32) = true := by
  decide +kernel

/-- V42.9: STRB r0, [r1, #1]. -/
theorem test_V42_9 :
    after (step (arm 0xE5C10001#32 (poke 0x1000#32 0x0#32 (base 0xD3#32 0x8000#32 [(0, 0x1AB#32), (1, 0x1000#32)]))))
    (fun t => t.cpsr == 0xD3#32 && t.pc == 0x8004#32 && t.mem.read .word 0x1000#32 == 0xAB00#32) = true := by
  decide +kernel

/-- V42.10: STR r0, [r1, #2]: misaligned store writes the aligned word. -/
theorem test_V42_10 :
    after (step (arm 0xE5810002#32 (poke 0x1000#32 0x0#32 (base 0xD3#32 0x8000#32 [(0, 0xA1B2C3D4#32),
      (1, 0x1000#32)]))))
    (fun t => t.cpsr == 0xD3#32 && t.pc == 0x8004#32 && t.mem.read .word 0x1000#32 == 0xA1B2C3D4#32) = true := by
  decide +kernel

/-- V42.11: LDRH r0, [r1, #2]. -/
theorem test_V42_11 :
    after (step (arm 0xE1D100B2#32 (poke 0x1000#32 0x8001FFFF#32 (base 0xD3#32 0x8000#32 [(1, 0x1000#32)]))))
    (fun t => cell .r0 t == 0x8001#32 && t.cpsr == 0xD3#32 && t.pc == 0x8004#32) = true := by
  decide +kernel

/-- V42.12: LDRSH r0, [r1, #2]. -/
theorem test_V42_12 :
    after (step (arm 0xE1D100F2#32 (poke 0x1000#32 0x8001FFFF#32 (base 0xD3#32 0x8000#32 [(1, 0x1000#32)]))))
    (fun t => cell .r0 t == 0xFFFF8001#32 && t.cpsr == 0xD3#32 && t.pc == 0x8004#32) = true := by
  decide +kernel

/-- V42.13: LDRSB r0, [r1]. -/
theorem test_V42_13 :
    after (step (arm 0xE1D100D0#32 (poke 0x1000#32 0xFE#32 (base 0xD3#32 0x8000#32 [(1, 0x1000#32)]))))
    (fun t => cell .r0 t == 0xFFFFFFFE#32 && t.cpsr == 0xD3#32 && t.pc == 0x8004#32) = true := by
  decide +kernel

/-- V42.14: STRH r0, [r1, #2]. -/
theorem test_V42_14 :
    after (step (arm 0xE1C100B2#32 (poke 0x1000#32 0x0#32 (base 0xD3#32 0x8000#32 [(0, 0x12345678#32),
      (1, 0x1000#32)]))))
    (fun t => t.cpsr == 0xD3#32 && t.pc == 0x8004#32 && t.mem.read .word 0x1000#32 == 0x56780000#32) = true := by
  decide +kernel

/-- V42.15: LDRH r0, [r1, #1]: odd address. -/
theorem test_V42_15 :
    unpredictable (step (arm 0xE1D100B1#32 (poke 0x1000#32 0x0#32
      (base 0xD3#32 0x8000#32 [(1, 0x1000#32)])))) = true := by
  decide +kernel

/-- V42.18: SWP r0, r1, [r2]. -/
theorem test_V42_18 :
    after (step (arm 0xE1020091#32 (poke 0x1000#32 0x12345678#32 (base 0xD3#32 0x8000#32 [(1, 0xAAAA5555#32),
      (2, 0x1000#32)]))))
    (fun t => cell .r0 t == 0x12345678#32 && t.cpsr == 0xD3#32 && t.pc == 0x8004#32
      && t.mem.read .word 0x1000#32 == 0xAAAA5555#32) = true := by
  decide +kernel

/-- V42.19: SWP r0, r1, [r2] at a misaligned address. -/
theorem test_V42_19 :
    after (step (arm 0xE1020091#32 (poke 0x1000#32 0x12345678#32 (base 0xD3#32 0x8000#32 [(1, 0xAAAA5555#32),
      (2, 0x1001#32)]))))
    (fun t => cell .r0 t == 0x78123456#32 && t.cpsr == 0xD3#32 && t.pc == 0x8004#32
      && t.mem.read .word 0x1000#32 == 0xAAAA5555#32) = true := by
  decide +kernel

/-- V42.20: SWPB r0, r1, [r2]. -/
theorem test_V42_20 :
    after (step (arm 0xE1420091#32 (poke 0x1000#32 0x12345678#32 (base 0xD3#32 0x8000#32 [(1, 0xAAAA5555#32),
      (2, 0x1001#32)]))))
    (fun t => cell .r0 t == 0x56#32 && t.cpsr == 0xD3#32 && t.pc == 0x8004#32
      && t.mem.read .word 0x1000#32 == 0x12345578#32) = true := by
  decide +kernel

/-- V42.22: LDRD r2, [r1]. -/
theorem test_V42_22 :
    after (step (arm 0xE1C120D0#32 (poke 0x1004#32 0x2#32 (poke 0x1000#32 0x1#32
      (base 0xD3#32 0x8000#32 [(1, 0x1000#32)])))))
    (fun t => cell .r2 t == 0x1#32 && cell .r3 t == 0x2#32 && t.cpsr == 0xD3#32 && t.pc == 0x8004#32) = true := by
  decide +kernel

/-- V42.23: LDRD r1, [r2] (odd Rd). -/
theorem test_V42_23 :
    unpredictable (step (arm 0xE1C210D0#32 (base 0xD3#32 0x8000#32 [(2, 0x1000#32)]))) = true := by
  decide +kernel

/-- V42.24: STRD r2, [r1, #8]!. -/
theorem test_V42_24 :
    after (step (arm 0xE1E120F8#32 (base 0xD3#32 0x8000#32 [(1, 0x1000#32), (2, 0x11#32), (3, 0x22#32)])))
    (fun t => cell .r1 t == 0x1008#32 && t.cpsr == 0xD3#32 && t.pc == 0x8004#32
      && t.mem.read .word 0x1008#32 == 0x11#32 && t.mem.read .word 0x100C#32 == 0x22#32) = true := by
  decide +kernel

/-- V42.25: PLD [r0, #64]. -/
theorem test_V42_25 :
    after (step (arm 0xF5D0F040#32 (base 0xD3#32 0x8000#32 [(0, 0x1000#32)])))
    (fun t => t.cpsr == 0xD3#32 && t.pc == 0x8004#32) = true := by
  decide +kernel

/-- V42.26: STRT r0, [r1], #4. -/
theorem test_V42_26 :
    after (step (arm 0xE4A10004#32 (base 0xD3#32 0x8000#32 [(0, 0x5#32), (1, 0x3000#32)])))
    (fun t => cell .r1 t == 0x3004#32 && t.cpsr == 0xD3#32 && t.pc == 0x8004#32
      && t.mem.read .word 0x3000#32 == 0x5#32) = true := by
  decide +kernel

/-- V42.27: LDRBT r0, [r1], #1. -/
theorem test_V42_27 :
    after (step (arm 0xE4F10001#32 (poke 0x3000#32 0xC3#32 (base 0xD3#32 0x8000#32 [(1, 0x3000#32)]))))
    (fun t => cell .r0 t == 0xC3#32 && cell .r1 t == 0x3001#32 && t.cpsr == 0xD3#32 && t.pc == 0x8004#32) = true := by
  decide +kernel

/-- V42.28: LDRT r0, [r1], #4 in SVC, section AP = 01. -/
theorem test_V42_28 :
    after (step ({ arm 0xE4B10004#32 (poke 0x4004#32 0x20000402#32 (poke 0x4000#32 0xC02#32
      (base 0xD3#32 0x8000#32 [(1, 0x100000#32)]))) with control := 0x71#32, ttb := 0x4000#32, dacr := 0x1#32 }))
    (fun t => t.cpsr == 0xD3#32 && t.pc == 0x8000#32 && t.far == 0x100000#32
      && t.fsr.extractLsb' 0 4 == 0xD#4) = true := by
  decide +kernel

/-- V43.1: STMDB sp!, r0, r1, lr (PUSH). -/
theorem test_V43_1 :
    after (step (arm 0xE92D4003#32 (base 0xD3#32 0x8000#32 [(0, 0x1#32), (1, 0x2#32), (14, 0x3#32),
      (13, 0x2000#32)])))
    (fun t => cell .r13svc t == 0x1FF4#32 && t.cpsr == 0xD3#32 && t.pc == 0x8004#32
      && t.mem.read .word 0x1FF4#32 == 0x1#32 && t.mem.read .word 0x1FF8#32 == 0x2#32
        && t.mem.read .word 0x1FFC#32 == 0x3#32) = true := by
  decide +kernel

/-- V43.2: LDMIA sp!, r0, r1, pc: return to Thumb. -/
theorem test_V43_2 :
    after (step (arm 0xE8BD8003#32 (poke 0x1FFC#32 0x3001#32 (poke 0x1FF8#32 0xB#32 (poke 0x1FF4#32 0xA#32
      (base 0xD3#32 0x8000#32 [(13, 0x1FF4#32)]))))))
    (fun t => cell .r0 t == 0xA#32 && cell .r1 t == 0xB#32 && cell .r13svc t == 0x2000#32 && t.cpsr == 0xF3#32
      && t.pc == 0x3000#32) = true := by
  decide +kernel

/-- V43.3: LDMIB r0, r1, r2. -/
theorem test_V43_3 :
    after (step (arm 0xE9900006#32 (poke 0x1008#32 0x8#32 (poke 0x1004#32 0x4#32
      (base 0xD3#32 0x8000#32 [(0, 0x1000#32)])))))
    (fun t => cell .r1 t == 0x4#32 && cell .r2 t == 0x8#32 && t.cpsr == 0xD3#32 && t.pc == 0x8004#32) = true := by
  decide +kernel

/-- V43.4: STMDA r0!, r1, r2. -/
theorem test_V43_4 :
    after (step (arm 0xE8200006#32 (base 0xD3#32 0x8000#32 [(0, 0x1008#32), (1, 0x11#32), (2, 0x22#32)])))
    (fun t => cell .r0 t == 0x1000#32 && t.cpsr == 0xD3#32 && t.pc == 0x8004#32
      && t.mem.read .word 0x1004#32 == 0x11#32 && t.mem.read .word 0x1008#32 == 0x22#32) = true := by
  decide +kernel

/-- V43.8: LDMIA r0, r13, r14^ (LDM(2), User bank). -/
theorem test_V43_8 :
    after (step (arm 0xE8D06000#32 (poke 0x1004#32 0x222#32 (poke 0x1000#32 0x111#32
      (base 0xD3#32 0x8000#32 [(0, 0x1000#32)])))))
    (fun t => cell .r13usr t == 0x111#32 && cell .r14usr t == 0x222#32 && t.cpsr == 0xD3#32
      && t.pc == 0x8004#32) = true := by
  decide +kernel

/-- V43.9: LDMIA r0!, r1, pc^ (LDM(3), SPSR restore). -/
theorem test_V43_9 :
    after (step (arm 0xE8F08002#32 (poke 0x1004#32 0x4001#32 (poke 0x1000#32 0x9#32 (setSpsr .svc 0x30#32
      (base 0xD3#32 0x8000#32 [(0, 0x1000#32)]))))))
    (fun t => cell .r0 t == 0x1008#32 && cell .r1 t == 0x9#32 && t.cpsr == 0x30#32 && t.pc == 0x4000#32) = true := by
  decide +kernel

/-- V43.10: STMIA r0, r13, r14^ (STM(2), User bank). -/
theorem test_V43_10 :
    after (step (arm 0xE8C06000#32 (setCell .r14usr 0xBB#32 (setCell .r13usr 0xAA#32
      (base 0xD3#32 0x8000#32 [(0, 0x1000#32)])))))
    (fun t => t.cpsr == 0xD3#32 && t.pc == 0x8004#32 && t.mem.read .word 0x1000#32 == 0xAA#32
      && t.mem.read .word 0x1004#32 == 0xBB#32) = true := by
  decide +kernel

/-- V44.1: B forward. -/
theorem test_V44_1 :
    after (step (arm 0xEA000002#32 (base 0xD3#32 0x8000#32 [])))
    (fun t => t.cpsr == 0xD3#32 && t.pc == 0x8010#32) = true := by
  decide +kernel

/-- V44.2: B . (branch to self). -/
theorem test_V44_2 :
    after (step (arm 0xEAFFFFFE#32 (base 0xD3#32 0x8000#32 [])))
    (fun t => t.cpsr == 0xD3#32 && t.pc == 0x8000#32) = true := by
  decide +kernel

/-- V44.3: BL backward. -/
theorem test_V44_3 :
    after (step (arm 0xEBFFFFF0#32 (base 0xD3#32 0x8000#32 [])))
    (fun t => cell .r14svc t == 0x8004#32 && t.cpsr == 0xD3#32 && t.pc == 0x7FC8#32) = true := by
  decide +kernel

/-- V44.4: BLNE with Z = 1: not taken, LR unchanged. -/
theorem test_V44_4 :
    after (step (arm 0x1B000010#32 (base 0x400000D3#32 0x8000#32 [(14, 0x1234#32)])))
    (fun t => t.cpsr == 0x400000D3#32 && t.pc == 0x8004#32) = true := by
  decide +kernel

/-- V44.5: BX r0 with bit 0 = 1: enter Thumb. -/
theorem test_V44_5 :
    after (step (arm 0xE12FFF10#32 (base 0xD3#32 0x8000#32 [(0, 0x9001#32)])))
    (fun t => t.cpsr == 0xF3#32 && t.pc == 0x9000#32) = true := by
  decide +kernel

/-- V44.6: BX r0 with bits [1:0] = 10. -/
theorem test_V44_6 :
    unpredictable (step (arm 0xE12FFF10#32 (base 0xD3#32 0x8000#32 [(0, 0x9002#32)]))) = true := by
  decide +kernel

/-- V44.7: BLX r1: link and enter Thumb. -/
theorem test_V44_7 :
    after (step (arm 0xE12FFF31#32 (base 0xD3#32 0x8000#32 [(1, 0xA001#32)])))
    (fun t => cell .r14svc t == 0x8004#32 && t.cpsr == 0xF3#32 && t.pc == 0xA000#32) = true := by
  decide +kernel

/-- V44.8: BLX #imm, H = 1 (0xFB000000). -/
theorem test_V44_8 :
    after (step (arm 0xFB000000#32 (base 0xD3#32 0x8000#32 [])))
    (fun t => cell .r14svc t == 0x8004#32 && t.cpsr == 0xF3#32 && t.pc == 0x800A#32) = true := by
  decide +kernel

/-- V44.9: BLX #imm, H = 0 (0xFA000001). -/
theorem test_V44_9 :
    after (step (arm 0xFA000001#32 (base 0xD3#32 0x8000#32 [])))
    (fun t => cell .r14svc t == 0x8004#32 && t.cpsr == 0xF3#32 && t.pc == 0x800C#32) = true := by
  decide +kernel

/-- V45.1: MRS r0, CPSR. -/
theorem test_V45_1 :
    after (step (arm 0xE10F0000#32 (base 0x600000D3#32 0x8000#32 [])))
    (fun t => cell .r0 t == 0x600000D3#32 && t.cpsr == 0x600000D3#32 && t.pc == 0x8004#32) = true := by
  decide +kernel

/-- V45.2: MRS r0, SPSR. -/
theorem test_V45_2 :
    after (step (arm 0xE14F0000#32 (setSpsr .svc 0x20000010#32 (base 0xD3#32 0x8000#32 []))))
    (fun t => cell .r0 t == 0x20000010#32 && t.cpsr == 0xD3#32 && t.pc == 0x8004#32) = true := by
  decide +kernel

/-- V45.4: MSR CPSR_f, #0xF0000000 (imm 0xF, rot 2). -/
theorem test_V45_4 :
    after (step (arm 0xE328F20F#32 (base 0xD3#32 0x8000#32 [])))
    (fun t => t.cpsr == 0xF00000D3#32 && t.pc == 0x8004#32) = true := by
  decide +kernel

/-- V45.5: MSR CPSR_c, #0x1F: enter System mode. -/
theorem test_V45_5 :
    after (step (arm 0xE321F01F#32 (base 0xD3#32 0x8000#32 [])))
    (fun t => t.cpsr == 0x1F#32 && t.pc == 0x8004#32) = true := by
  decide +kernel

/-- V45.6: MSR CPSR_fc, r0 in User mode: only flags change. -/
theorem test_V45_6 :
    after (step (arm 0xE129F000#32 (base 0x10#32 0x8000#32 [(0, 0xF00000D3#32)])))
    (fun t => t.cpsr == 0xF0000010#32 && t.pc == 0x8004#32) = true := by
  decide +kernel

/-- V45.7: MSR CPSR_c, r0 that sets T. -/
theorem test_V45_7 :
    unpredictable (step (arm 0xE121F000#32 (base 0xD3#32 0x8000#32 [(0, 0xF3#32)]))) = true := by
  decide +kernel

/-- V45.10: CLZ r0, r1 with r1 = 0. -/
theorem test_V45_10 :
    after (step (arm 0xE16F0F11#32 (base 0xD3#32 0x8000#32 [(1, 0x0#32)])))
    (fun t => cell .r0 t == 0x20#32 && t.cpsr == 0xD3#32 && t.pc == 0x8004#32) = true := by
  decide +kernel

/-- V45.11: CLZ r0, r1 with r1 = 1. -/
theorem test_V45_11 :
    after (step (arm 0xE16F0F11#32 (base 0xD3#32 0x8000#32 [(1, 0x1#32)])))
    (fun t => cell .r0 t == 0x1F#32 && t.cpsr == 0xD3#32 && t.pc == 0x8004#32) = true := by
  decide +kernel

/-- V45.13: SWI 0x123456. -/
theorem test_V45_13 :
    after (step (arm 0xEF123456#32 (base 0xD3#32 0x8000#32 [])))
    (fun t => t.cpsr == 0xD3#32 && t.pc == 0x8000#32 && t.pending.first == some .softwareInterrupt) = true := by
  decide +kernel

/-- V45.14: SWIEQ with Z = 0: not taken. -/
theorem test_V45_14 :
    after (step (arm 0x0F000000#32 (base 0xD3#32 0x8000#32 [])))
    (fun t => t.cpsr == 0xD3#32 && t.pc == 0x8004#32) = true := by
  decide +kernel

/-- V45.15: BKPT #0 (0xE1200070). -/
theorem test_V45_15 :
    after (step (arm 0xE1200070#32 (base 0xD3#32 0x8000#32 [])))
    (fun t => t.cpsr == 0xD3#32 && t.pc == 0x8000#32 && t.pending.first == some .prefetchAbort) = true := by
  decide +kernel

/-- V45.16: an UNDEFINED word (0xE7F000F0). -/
theorem test_V45_16 :
    after (step (arm 0xE7F000F0#32 (base 0xD3#32 0x8000#32 [])))
    (fun t => t.cpsr == 0xD3#32 && t.pc == 0x8000#32 && t.pending.first == some .undefinedInstruction) = true := by
  decide +kernel

/-- V46.1: MRC p15, 0, r0, c1, c0, 0: read the control register after reset. -/
theorem test_V46_1 :
    after (step (arm 0xEE110F10#32 (base 0xD3#32 0x8000#32 [])))
    (fun t => cell .r0 t == 0x70#32 && t.cpsr == 0xD3#32 && t.pc == 0x8004#32) = true := by
  decide +kernel

/-- V46.2: MCR p15, 0, r0, c1, c0, 0 with r0 = 0: bits [6:4] stay 1. -/
theorem test_V46_2 :
    after (step (arm 0xEE010F10#32 (base 0xD3#32 0x8000#32 [(0, 0x0#32)])))
    (fun t => t.cpsr == 0xD3#32 && t.pc == 0x8004#32) = true := by
  decide +kernel

/-- V46.3: MCR p15, 0, r0, c1, c0, 0 in User mode. -/
theorem test_V46_3 :
    after (step (arm 0xEE010F10#32 (base 0x10#32 0x8000#32 [(0, 0x0#32)])))
    (fun t => t.cpsr == 0x10#32 && t.pc == 0x8000#32 && t.pending.first == some .undefinedInstruction) = true := by
  decide +kernel

/-- V46.5: MRC p14, 0, r0, c0, c0, 0: coprocessor 14. -/
theorem test_V46_5 :
    unsupported (step (arm 0xEE100E10#32 (base 0xD3#32 0x8000#32 []))) = true := by
  decide +kernel

/-- V46.6: MCRR p15, 0, r0, r1, c0. -/
theorem test_V46_6 :
    unsupported (step (arm 0xEC410F00#32 (base 0xD3#32 0x8000#32 [(0, 0x0#32), (1, 0x0#32)]))) = true := by
  decide +kernel

/-- V46.7: CDP p15, 0, c0, c0, c0, 0. -/
theorem test_V46_7 :
    unsupported (step (arm 0xEE000F00#32 (base 0xD3#32 0x8000#32 []))) = true := by
  decide +kernel

/-- V46.8: STC p15, c0, [r0]. -/
theorem test_V46_8 :
    unsupported (step (arm 0xED800F00#32 (base 0xD3#32 0x8000#32 [(0, 0x1000#32)]))) = true := by
  decide +kernel

/-- V47.1: MOVS r0, #0x80. -/
theorem test_V47_1 :
    after (step (thumb 0x2080#16 (base 0x300000F3#32 0x8000#32 [])))
    (fun t => cell .r0 t == 0x80#32 && t.cpsr == 0x300000F3#32 && t.pc == 0x8002#32) = true := by
  decide +kernel

/-- V47.2: ADDS r0, r1, #0. -/
theorem test_V47_2 :
    after (step (thumb 0x1C08#16 (base 0x300000F3#32 0x8000#32 [(1, 0x5#32)])))
    (fun t => cell .r0 t == 0x5#32 && t.cpsr == 0xF3#32 && t.pc == 0x8002#32) = true := by
  decide +kernel

/-- V47.3: SUBS r0, r1, #1 with r1 = 0. -/
theorem test_V47_3 :
    after (step (thumb 0x1E48#16 (base 0xF3#32 0x8000#32 [(1, 0x0#32)])))
    (fun t => cell .r0 t == 0xFFFFFFFF#32 && t.cpsr == 0x800000F3#32 && t.pc == 0x8002#32) = true := by
  decide +kernel

/-- V47.4: ADDS r0, r1, r2: overflow. -/
theorem test_V47_4 :
    after (step (thumb 0x1888#16 (base 0xF3#32 0x8000#32 [(1, 0x7FFFFFFF#32), (2, 0x1#32)])))
    (fun t => cell .r0 t == 0x80000000#32 && t.cpsr == 0x900000F3#32 && t.pc == 0x8002#32) = true := by
  decide +kernel

/-- V47.5: CMP r0, #10 with r0 = 9. -/
theorem test_V47_5 :
    after (step (thumb 0x280A#16 (base 0xF3#32 0x8000#32 [(0, 0x9#32)])))
    (fun t => t.cpsr == 0x800000F3#32 && t.pc == 0x8002#32) = true := by
  decide +kernel

/-- V47.6: LSLS r0, r1, #0: C unchanged. -/
theorem test_V47_6 :
    after (step (thumb 0x0008#16 (base 0x200000F3#32 0x8000#32 [(1, 0x80000000#32)])))
    (fun t => cell .r0 t == 0x80000000#32 && t.cpsr == 0xA00000F3#32 && t.pc == 0x8002#32) = true := by
  decide +kernel

/-- V47.7: LSRS r0, r1, #0 (means #32). -/
theorem test_V47_7 :
    after (step (thumb 0x0808#16 (base 0xF3#32 0x8000#32 [(1, 0x80000000#32)])))
    (fun t => cell .r0 t == 0x0#32 && t.cpsr == 0x600000F3#32 && t.pc == 0x8002#32) = true := by
  decide +kernel

/-- V47.8: LSLS r0, r1 with r1 = 33. -/
theorem test_V47_8 :
    after (step (thumb 0x4088#16 (base 0x200000F3#32 0x8000#32 [(0, 0x1#32), (1, 0x21#32)])))
    (fun t => cell .r0 t == 0x0#32 && t.cpsr == 0x400000F3#32 && t.pc == 0x8002#32) = true := by
  decide +kernel

/-- V47.9: RORS r0, r1 with r1 = 32. -/
theorem test_V47_9 :
    after (step (thumb 0x41C8#16 (base 0xF3#32 0x8000#32 [(0, 0x80000001#32), (1, 0x20#32)])))
    (fun t => t.cpsr == 0xA00000F3#32 && t.pc == 0x8002#32) = true := by
  decide +kernel

/-- V47.10: NEGS r0, r1 with r1 = 0. -/
theorem test_V47_10 :
    after (step (thumb 0x4248#16 (base 0xF3#32 0x8000#32 [(1, 0x0#32)])))
    (fun t => cell .r0 t == 0x0#32 && t.cpsr == 0x600000F3#32 && t.pc == 0x8002#32) = true := by
  decide +kernel

/-- V47.11: NEGS r0, r1 with r1 = 0x80000000. -/
theorem test_V47_11 :
    after (step (thumb 0x4248#16 (base 0xF3#32 0x8000#32 [(1, 0x80000000#32)])))
    (fun t => cell .r0 t == 0x80000000#32 && t.cpsr == 0x900000F3#32 && t.pc == 0x8002#32) = true := by
  decide +kernel

/-- V47.12: ADCS r0, r1 with C = 1. -/
theorem test_V47_12 :
    after (step (thumb 0x4148#16 (base 0x200000F3#32 0x8000#32 [(0, 0xFFFFFFFF#32), (1, 0x0#32)])))
    (fun t => cell .r0 t == 0x0#32 && t.cpsr == 0x600000F3#32 && t.pc == 0x8002#32) = true := by
  decide +kernel

/-- V47.13: SBCS r0, r1 with C = 0. -/
theorem test_V47_13 :
    after (step (thumb 0x4188#16 (base 0xF3#32 0x8000#32 [(0, 0x0#32), (1, 0x0#32)])))
    (fun t => cell .r0 t == 0xFFFFFFFF#32 && t.cpsr == 0x800000F3#32 && t.pc == 0x8002#32) = true := by
  decide +kernel

/-- V47.14: MULS r0, r1. -/
theorem test_V47_14 :
    after (step (thumb 0x4348#16 (base 0x300000F3#32 0x8000#32 [(0, 0x10000#32), (1, 0x10000#32)])))
    (fun t => cell .r0 t == 0x0#32 && t.cpsr == 0x700000F3#32 && t.pc == 0x8002#32) = true := by
  decide +kernel

/-- V47.15: MULS r0, r0 (Rd = Rm). -/
theorem test_V47_15 :
    unpredictable (step (thumb 0x4340#16 (base 0xF3#32 0x8000#32 [(0, 0x3#32)]))) = true := by
  decide +kernel

/-- V47.16: ADD r8, r0: no flags. -/
theorem test_V47_16 :
    after (step (thumb 0x4480#16 (base 0xF3#32 0x8000#32 [(8, 0xFFFFFFFF#32), (0, 0x1#32)])))
    (fun t => cell .r8usr t == 0x0#32 && t.cpsr == 0xF3#32 && t.pc == 0x8002#32) = true := by
  decide +kernel

/-- V47.17: ADD pc, r0. -/
theorem test_V47_17 :
    after (step (thumb 0x4487#16 (base 0xF3#32 0x8000#32 [(0, 0x10#32)])))
    (fun t => t.cpsr == 0xF3#32 && t.pc == 0x8014#32) = true := by
  decide +kernel

/-- V47.18: MOV r8, r8 (no-op). -/
theorem test_V47_18 :
    after (step (thumb 0x46C0#16 (base 0xF3#32 0x8000#32 [(8, 0x42#32)])))
    (fun t => t.cpsr == 0xF3#32 && t.pc == 0x8002#32) = true := by
  decide +kernel

/-- V47.19: MOV pc, lr: stays in Thumb. -/
theorem test_V47_19 :
    after (step (thumb 0x46F7#16 (base 0xF3#32 0x8000#32 [(14, 0x9001#32)])))
    (fun t => t.cpsr == 0xF3#32 && t.pc == 0x9000#32) = true := by
  decide +kernel

/-- V47.21: ADD r0, pc, #8 at 0x8002. -/
theorem test_V47_21 :
    after (step (thumb 0xA002#16 (base 0xF3#32 0x8002#32 [])))
    (fun t => cell .r0 t == 0x800C#32 && t.cpsr == 0xF3#32 && t.pc == 0x8004#32) = true := by
  decide +kernel

/-- V47.22: ADD sp, #-8 (SUB sp, #8). -/
theorem test_V47_22 :
    after (step (thumb 0xB082#16 (base 0xF3#32 0x8000#32 [(13, 0x2000#32)])))
    (fun t => cell .r13svc t == 0x1FF8#32 && t.cpsr == 0xF3#32 && t.pc == 0x8002#32) = true := by
  decide +kernel

/-- V47.23: ASRS r0, r1, #1. -/
theorem test_V47_23 :
    after (step (thumb 0x1048#16 (base 0xF3#32 0x8000#32 [(1, 0x80000001#32)])))
    (fun t => cell .r0 t == 0xC0000000#32 && t.cpsr == 0xA00000F3#32 && t.pc == 0x8002#32) = true := by
  decide +kernel

/-- V47.24: ASRS r0, r1, #0 (means #32). -/
theorem test_V47_24 :
    after (step (thumb 0x1008#16 (base 0xF3#32 0x8000#32 [(1, 0x80000000#32)])))
    (fun t => cell .r0 t == 0xFFFFFFFF#32 && t.cpsr == 0xA00000F3#32 && t.pc == 0x8002#32) = true := by
  decide +kernel

/-- V47.25: LSRS r0, r1 with r1 = 0 (count 0). -/
theorem test_V47_25 :
    after (step (thumb 0x40C8#16 (base 0x200000F3#32 0x8000#32 [(0, 0xF0#32), (1, 0x0#32)])))
    (fun t => t.cpsr == 0x200000F3#32 && t.pc == 0x8002#32) = true := by
  decide +kernel

/-- V47.26: ASRS r0, r1 with r1 = 40. -/
theorem test_V47_26 :
    after (step (thumb 0x4108#16 (base 0xF3#32 0x8000#32 [(0, 0x80000000#32), (1, 0x28#32)])))
    (fun t => cell .r0 t == 0xFFFFFFFF#32 && t.cpsr == 0xA00000F3#32 && t.pc == 0x8002#32) = true := by
  decide +kernel

/-- V47.27: ADDS r0, r1, #7. -/
theorem test_V47_27 :
    after (step (thumb 0x1DC8#16 (base 0xF3#32 0x8000#32 [(1, 0xFFFFFFF9#32)])))
    (fun t => cell .r0 t == 0x0#32 && t.cpsr == 0x600000F3#32 && t.pc == 0x8002#32) = true := by
  decide +kernel

/-- V47.28: SUBS r0, r1, #7. -/
theorem test_V47_28 :
    after (step (thumb 0x1FC8#16 (base 0xF3#32 0x8000#32 [(1, 0x7#32)])))
    (fun t => cell .r0 t == 0x0#32 && t.cpsr == 0x600000F3#32 && t.pc == 0x8002#32) = true := by
  decide +kernel

/-- V47.29: SUBS r0, r1, r2. -/
theorem test_V47_29 :
    after (step (thumb 0x1A88#16 (base 0xF3#32 0x8000#32 [(1, 0x3#32), (2, 0x5#32)])))
    (fun t => cell .r0 t == 0xFFFFFFFE#32 && t.cpsr == 0x800000F3#32 && t.pc == 0x8002#32) = true := by
  decide +kernel

/-- V47.30: ADDS r0, #255. -/
theorem test_V47_30 :
    after (step (thumb 0x30FF#16 (base 0xF3#32 0x8000#32 [(0, 0x1#32)])))
    (fun t => cell .r0 t == 0x100#32 && t.cpsr == 0xF3#32 && t.pc == 0x8002#32) = true := by
  decide +kernel

/-- V47.31: ANDS r0, r1. -/
theorem test_V47_31 :
    after (step (thumb 0x4008#16 (base 0xF3#32 0x8000#32 [(0, 0xF0F0#32), (1, 0xF0F#32)])))
    (fun t => cell .r0 t == 0x0#32 && t.cpsr == 0x400000F3#32 && t.pc == 0x8002#32) = true := by
  decide +kernel

/-- V47.32: EORS r0, r1. -/
theorem test_V47_32 :
    after (step (thumb 0x4048#16 (base 0xF3#32 0x8000#32 [(0, 0xFFFFFFFF#32), (1, 0x7FFFFFFF#32)])))
    (fun t => cell .r0 t == 0x80000000#32 && t.cpsr == 0x800000F3#32 && t.pc == 0x8002#32) = true := by
  decide +kernel

/-- V47.33: TST r0, r1. -/
theorem test_V47_33 :
    after (step (thumb 0x4208#16 (base 0xF3#32 0x8000#32 [(0, 0x8#32), (1, 0x8#32)])))
    (fun t => t.cpsr == 0xF3#32 && t.pc == 0x8002#32) = true := by
  decide +kernel

/-- V47.34: CMP r0, r1 (register, low). -/
theorem test_V47_34 :
    after (step (thumb 0x4288#16 (base 0xF3#32 0x8000#32 [(0, 0x5#32), (1, 0x5#32)])))
    (fun t => t.cpsr == 0x600000F3#32 && t.pc == 0x8002#32) = true := by
  decide +kernel

/-- V47.35: CMN r0, r1. -/
theorem test_V47_35 :
    after (step (thumb 0x42C8#16 (base 0xF3#32 0x8000#32 [(0, 0x80000000#32), (1, 0x80000000#32)])))
    (fun t => t.cpsr == 0x700000F3#32 && t.pc == 0x8002#32) = true := by
  decide +kernel

/-- V47.36: ORRS r0, r1. -/
theorem test_V47_36 :
    after (step (thumb 0x4308#16 (base 0xF3#32 0x8000#32 [(0, 0x0#32), (1, 0x0#32)])))
    (fun t => t.cpsr == 0x400000F3#32 && t.pc == 0x8002#32) = true := by
  decide +kernel

/-- V47.37: BICS r0, r1. -/
theorem test_V47_37 :
    after (step (thumb 0x4388#16 (base 0xF3#32 0x8000#32 [(0, 0xFF#32), (1, 0xF#32)])))
    (fun t => cell .r0 t == 0xF0#32 && t.cpsr == 0xF3#32 && t.pc == 0x8002#32) = true := by
  decide +kernel

/-- V47.38: MVNS r0, r1. -/
theorem test_V47_38 :
    after (step (thumb 0x43C8#16 (base 0xF3#32 0x8000#32 [(1, 0x0#32), (0, 0x5#32)])))
    (fun t => cell .r0 t == 0xFFFFFFFF#32 && t.cpsr == 0x800000F3#32 && t.pc == 0x8002#32) = true := by
  decide +kernel

/-- V47.39: CMP r8, r0 (hi-register form). -/
theorem test_V47_39 :
    after (step (thumb 0x4580#16 (base 0xF3#32 0x8000#32 [(8, 0x1#32), (0, 0x2#32)])))
    (fun t => t.cpsr == 0x800000F3#32 && t.pc == 0x8002#32) = true := by
  decide +kernel

/-- V47.41: ADD r0, sp, #16. -/
theorem test_V47_41 :
    after (step (thumb 0xA804#16 (base 0xF3#32 0x8000#32 [(13, 0x2000#32)])))
    (fun t => cell .r0 t == 0x2010#32 && t.cpsr == 0xF3#32 && t.pc == 0x8002#32) = true := by
  decide +kernel

/-- V47.42: SUB sp, #508. -/
theorem test_V47_42 :
    after (step (thumb 0xB0FF#16 (base 0xF3#32 0x8000#32 [(13, 0x2000#32)])))
    (fun t => cell .r13svc t == 0x1E04#32 && t.cpsr == 0xF3#32 && t.pc == 0x8002#32) = true := by
  decide +kernel

/-- V48.1: LDR r0, [pc, #4] at 0x8002. -/
theorem test_V48_1 :
    after (step (thumb 0x4801#16 (poke 0x8008#32 0xDEADBEEF#32 (base 0xF3#32 0x8002#32 []))))
    (fun t => cell .r0 t == 0xDEADBEEF#32 && t.cpsr == 0xF3#32 && t.pc == 0x8004#32) = true := by
  decide +kernel

/-- V48.2: LDR r0, [r1, #4]. -/
theorem test_V48_2 :
    after (step (thumb 0x6848#16 (poke 0x1004#32 0x99#32 (base 0xF3#32 0x8000#32 [(1, 0x1000#32)]))))
    (fun t => cell .r0 t == 0x99#32 && t.cpsr == 0xF3#32 && t.pc == 0x8002#32) = true := by
  decide +kernel

/-- V48.3: LDRB r0, [r1, #3]. -/
theorem test_V48_3 :
    after (step (thumb 0x78C8#16 (poke 0x1000#32 0x11223344#32 (base 0xF3#32 0x8000#32 [(1, 0x1000#32)]))))
    (fun t => cell .r0 t == 0x11#32 && t.cpsr == 0xF3#32 && t.pc == 0x8002#32) = true := by
  decide +kernel

/-- V48.4: LDRH r0, [r1, #2]. -/
theorem test_V48_4 :
    after (step (thumb 0x8848#16 (poke 0x1000#32 0x11223344#32 (base 0xF3#32 0x8000#32 [(1, 0x1000#32)]))))
    (fun t => cell .r0 t == 0x1122#32 && t.cpsr == 0xF3#32 && t.pc == 0x8002#32) = true := by
  decide +kernel

/-- V48.5: LDRSH r0, [r1, r2]. -/
theorem test_V48_5 :
    after (step (thumb 0x5E88#16 (poke 0x1000#32 0x80000000#32 (base 0xF3#32 0x8000#32 [(1, 0x1000#32),
      (2, 0x2#32)]))))
    (fun t => cell .r0 t == 0xFFFF8000#32 && t.cpsr == 0xF3#32 && t.pc == 0x8002#32) = true := by
  decide +kernel

/-- V48.6: LDR r0, [r1, r2] misaligned. -/
theorem test_V48_6 :
    after (step (thumb 0x5888#16 (poke 0x1000#32 0x11223344#32 (base 0xF3#32 0x8000#32 [(1, 0x1000#32),
      (2, 0x2#32)]))))
    (fun t => cell .r0 t == 0x33441122#32 && t.cpsr == 0xF3#32 && t.pc == 0x8002#32) = true := by
  decide +kernel

/-- V48.7: STRH r0, [r1, #1*2]. -/
theorem test_V48_7 :
    after (step (thumb 0x8048#16 (poke 0x1000#32 0x0#32 (base 0xF3#32 0x8000#32 [(0, 0xABCD1234#32),
      (1, 0x1000#32)]))))
    (fun t => t.cpsr == 0xF3#32 && t.pc == 0x8002#32 && t.mem.read .word 0x1000#32 == 0x12340000#32) = true := by
  decide +kernel

/-- V48.8: PUSH r0, lr. -/
theorem test_V48_8 :
    after (step (thumb 0xB501#16 (base 0xF3#32 0x8000#32 [(0, 0x7#32), (14, 0x8F01#32), (13, 0x2000#32)])))
    (fun t => cell .r13svc t == 0x1FF8#32 && t.cpsr == 0xF3#32 && t.pc == 0x8002#32
      && t.mem.read .word 0x1FF8#32 == 0x7#32 && t.mem.read .word 0x1FFC#32 == 0x8F01#32) = true := by
  decide +kernel

/-- V48.9: POP r0, pc: pop to ARM state. -/
theorem test_V48_9 :
    after (step (thumb 0xBD01#16 (poke 0x1FFC#32 0x9000#32 (poke 0x1FF8#32 0x7#32
      (base 0xF3#32 0x8000#32 [(13, 0x1FF8#32)])))))
    (fun t => cell .r0 t == 0x7#32 && cell .r13svc t == 0x2000#32 && t.cpsr == 0xD3#32
      && t.pc == 0x9000#32) = true := by
  decide +kernel

/-- V48.10: POP pc with a value ending in 10. -/
theorem test_V48_10 :
    unpredictable (step (thumb 0xBD00#16 (poke 0x1FFC#32 0x9002#32
      (base 0xF3#32 0x8000#32 [(13, 0x1FFC#32)])))) = true := by
  decide +kernel

/-- V48.11: STMIA r0!, r1, r2. -/
theorem test_V48_11 :
    after (step (thumb 0xC006#16 (base 0xF3#32 0x8000#32 [(0, 0x1000#32), (1, 0x1#32), (2, 0x2#32)])))
    (fun t => cell .r0 t == 0x1008#32 && t.cpsr == 0xF3#32 && t.pc == 0x8002#32
      && t.mem.read .word 0x1000#32 == 0x1#32 && t.mem.read .word 0x1004#32 == 0x2#32) = true := by
  decide +kernel

/-- V48.12: STMIA r1!, r0, r1: base not lowest. -/
theorem test_V48_12 :
    unpredictable (step (thumb 0xC103#16 (base 0xF3#32 0x8000#32 [(0, 0x0#32), (1, 0x1000#32)]))) = true := by
  decide +kernel

/-- V48.13: LDMIA r0!, r0, r1: base in list. -/
theorem test_V48_13 :
    after (step (thumb 0xC803#16 (poke 0x1004#32 0x66#32 (poke 0x1000#32 0x55#32
      (base 0xF3#32 0x8000#32 [(0, 0x1000#32)])))))
    (fun t => cell .r0 t == 0x55#32 && cell .r1 t == 0x66#32 && t.cpsr == 0xF3#32 && t.pc == 0x8002#32) = true := by
  decide +kernel

/-- V48.14: BEQ with Z = 1, backward. -/
theorem test_V48_14 :
    after (step (thumb 0xD0FE#16 (base 0x400000F3#32 0x8000#32 [])))
    (fun t => t.cpsr == 0x400000F3#32 && t.pc == 0x8000#32) = true := by
  decide +kernel

/-- V48.15: BNE with Z = 1: not taken. -/
theorem test_V48_15 :
    after (step (thumb 0xD1FE#16 (base 0x400000F3#32 0x8000#32 [])))
    (fun t => t.cpsr == 0x400000F3#32 && t.pc == 0x8002#32) = true := by
  decide +kernel

/-- V48.16: B (unconditional) forward. -/
theorem test_V48_16 :
    after (step (thumb 0xE002#16 (base 0xF3#32 0x8000#32 [])))
    (fun t => t.cpsr == 0xF3#32 && t.pc == 0x8008#32) = true := by
  decide +kernel

/-- V48.17: BX r1 to ARM. -/
theorem test_V48_17 :
    after (step (thumb 0x4708#16 (base 0xF3#32 0x8000#32 [(1, 0x9000#32)])))
    (fun t => t.cpsr == 0xD3#32 && t.pc == 0x9000#32) = true := by
  decide +kernel

/-- V48.18: BLX r1 staying in Thumb. -/
theorem test_V48_18 :
    after (step (thumb 0x4788#16 (base 0xF3#32 0x8000#32 [(1, 0x9001#32)])))
    (fun t => cell .r14svc t == 0x8003#32 && t.cpsr == 0xF3#32 && t.pc == 0x9000#32) = true := by
  decide +kernel

/-- V48.19: SWI 0x10 in Thumb. -/
theorem test_V48_19 :
    after (step (thumb 0xDF10#16 (base 0xF3#32 0x8000#32 [])))
    (fun t => t.cpsr == 0xF3#32 && t.pc == 0x8000#32 && t.pending.first == some .softwareInterrupt) = true := by
  decide +kernel

/-- V48.20: B with cond 1110 (UNDEFINED). -/
theorem test_V48_20 :
    after (step (thumb 0xDE00#16 (base 0xF3#32 0x8000#32 [])))
    (fun t => t.cpsr == 0xF3#32 && t.pc == 0x8000#32 && t.pending.first == some .undefinedInstruction) = true := by
  decide +kernel

/-- V48.21: BKPT #0. -/
theorem test_V48_21 :
    after (step (thumb 0xBE00#16 (base 0xF3#32 0x8000#32 [])))
    (fun t => t.cpsr == 0xF3#32 && t.pc == 0x8000#32 && t.pending.first == some .prefetchAbort) = true := by
  decide +kernel

/-- V48.22: a halfword in the 1011 hole (0xB100). -/
theorem test_V48_22 :
    after (step (thumb 0xB100#16 (base 0xF3#32 0x8000#32 [])))
    (fun t => t.cpsr == 0xF3#32 && t.pc == 0x8000#32 && t.pending.first == some .undefinedInstruction) = true := by
  decide +kernel

/-- V48.23: STR r0, [sp, #8]. -/
theorem test_V48_23 :
    after (step (thumb 0x9002#16 (base 0xF3#32 0x8000#32 [(0, 0x42#32), (13, 0x2000#32)])))
    (fun t => t.cpsr == 0xF3#32 && t.pc == 0x8002#32 && t.mem.read .word 0x2008#32 == 0x42#32) = true := by
  decide +kernel

/-- V48.24: LDR r0, [sp, #1020]. -/
theorem test_V48_24 :
    after (step (thumb 0x98FF#16 (poke 0x23FC#32 0x77#32 (base 0xF3#32 0x8000#32 [(13, 0x2000#32)]))))
    (fun t => cell .r0 t == 0x77#32 && t.cpsr == 0xF3#32 && t.pc == 0x8002#32) = true := by
  decide +kernel

/-- V48.25: STR r0, [r1, r2]. -/
theorem test_V48_25 :
    after (step (thumb 0x5088#16 (base 0xF3#32 0x8000#32 [(0, 0x1234#32), (1, 0x1000#32), (2, 0x4#32)])))
    (fun t => t.cpsr == 0xF3#32 && t.pc == 0x8002#32 && t.mem.read .word 0x1004#32 == 0x1234#32) = true := by
  decide +kernel

/-- V48.26: STRB r0, [r1, r2]. -/
theorem test_V48_26 :
    after (step (thumb 0x5488#16 (base 0xF3#32 0x8000#32 [(0, 0x1234#32), (1, 0x1000#32), (2, 0x3#32)])))
    (fun t => t.cpsr == 0xF3#32 && t.pc == 0x8002#32 && t.mem.read .word 0x1000#32 == 0x34000000#32) = true := by
  decide +kernel

/-- V48.27: LDRSB r0, [r1, r2]. -/
theorem test_V48_27 :
    after (step (thumb 0x5688#16 (poke 0x1000#32 0x8000#32 (base 0xF3#32 0x8000#32 [(1, 0x1000#32), (2, 0x1#32)]))))
    (fun t => cell .r0 t == 0xFFFFFF80#32 && t.cpsr == 0xF3#32 && t.pc == 0x8002#32) = true := by
  decide +kernel

/-- V48.28: LDRB r0, [r1, r2]. -/
theorem test_V48_28 :
    after (step (thumb 0x5C88#16 (poke 0x1000#32 0x8000#32 (base 0xF3#32 0x8000#32 [(1, 0x1000#32), (2, 0x1#32)]))))
    (fun t => cell .r0 t == 0x80#32 && t.cpsr == 0xF3#32 && t.pc == 0x8002#32) = true := by
  decide +kernel

/-- V48.29: LDRH r0, [r1, r2]. -/
theorem test_V48_29 :
    after (step (thumb 0x5A88#16 (poke 0x1000#32 0xBEEF0000#32 (base 0xF3#32 0x8000#32 [(1, 0x1000#32),
      (2, 0x2#32)]))))
    (fun t => cell .r0 t == 0xBEEF#32 && t.cpsr == 0xF3#32 && t.pc == 0x8002#32) = true := by
  decide +kernel

/-- V48.30: STRH r0, [r1, r2]. -/
theorem test_V48_30 :
    after (step (thumb 0x5288#16 (base 0xF3#32 0x8000#32 [(0, 0x12345678#32), (1, 0x1000#32), (2, 0x2#32)])))
    (fun t => t.cpsr == 0xF3#32 && t.pc == 0x8002#32 && t.mem.read .word 0x1000#32 == 0x56780000#32) = true := by
  decide +kernel

/-- V48.31: STR r0, [r1, #124]. -/
theorem test_V48_31 :
    after (step (thumb 0x67C8#16 (base 0xF3#32 0x8000#32 [(0, 0x9#32), (1, 0x1000#32)])))
    (fun t => t.cpsr == 0xF3#32 && t.pc == 0x8002#32 && t.mem.read .word 0x107C#32 == 0x9#32) = true := by
  decide +kernel

/-- V48.32: STRB r0, [r1, #31]. -/
theorem test_V48_32 :
    after (step (thumb 0x77C8#16 (base 0xF3#32 0x8000#32 [(0, 0x1AB#32), (1, 0x1000#32)])))
    (fun t => t.cpsr == 0xF3#32 && t.pc == 0x8002#32 && t.mem.read .word 0x101C#32 == 0xAB000000#32) = true := by
  decide +kernel

/-- V48.33: LDRH r0, [r1, #1] at an odd address (r1 odd). -/
theorem test_V48_33 :
    unpredictable (step (thumb 0x8808#16 (base 0xF3#32 0x8000#32 [(1, 0x1001#32)]))) = true := by
  decide +kernel

/-- V48.34: LDMIA r0!,  (empty list). -/
theorem test_V48_34 :
    unpredictable (step (thumb 0xC800#16 (base 0xF3#32 0x8000#32 [(0, 0x1000#32)]))) = true := by
  decide +kernel

/-- V48.35: PUSH  (empty list). -/
theorem test_V48_35 :
    unpredictable (step (thumb 0xB400#16 (base 0xF3#32 0x8000#32 [(13, 0x2000#32)]))) = true := by
  decide +kernel

/-- V48.36: B forward to the maximum (+2046). -/
theorem test_V48_36 :
    after (step (thumb 0xE3FF#16 (base 0xF3#32 0x8000#32 [])))
    (fun t => t.cpsr == 0xF3#32 && t.pc == 0x8802#32) = true := by
  decide +kernel

/-- V49.1: BL (hw1 0xF000, hw2 0xF802). -/
theorem test_V49_1 :
    after (step (thumb32 0xF000F802#32 (base 0xF3#32 0x8000#32 [])))
    (fun t => cell .r14svc t == 0x8005#32 && t.cpsr == 0xF3#32 && t.pc == 0x8008#32) = true := by
  decide +kernel

/-- V49.2: BL backward (hw1 0xF7FF, hw2 0xFFFE). -/
theorem test_V49_2 :
    after (step (thumb32 0xF7FFFFFE#32 (base 0xF3#32 0x8000#32 [])))
    (fun t => cell .r14svc t == 0x8005#32 && t.cpsr == 0xF3#32 && t.pc == 0x8000#32) = true := by
  decide +kernel

/-- V49.3: BLX(1) at 0x8002 (hw1 0xF000, hw2 0xE802). -/
theorem test_V49_3 :
    after (step (thumb32 0xF000E802#32 (base 0xF3#32 0x8002#32 [])))
    (fun t => cell .r14svc t == 0x8007#32 && t.cpsr == 0xD3#32 && t.pc == 0x8008#32) = true := by
  decide +kernel

/-- V49.4: BLX(1) with H = 1 (hw2 0xE803). -/
theorem test_V49_4 :
    unpredictable (step (thumb32 0xF000E803#32 (base 0xF3#32 0x8000#32 []))) = true := by
  decide +kernel

/-- V49.6: UDF (0xF7F0 0xA000). -/
theorem test_V49_6 :
    after (step (thumb32 0xF7F0A000#32 (base 0xF3#32 0x8000#32 [])))
    (fun t => t.cpsr == 0xF3#32 && t.pc == 0x8000#32 && t.pending.first == some .undefinedInstruction) = true := by
  decide +kernel

/-- V49.7: 32-bit B.cond (0xF000 0x8000). -/
theorem test_V49_7 :
    unsupported (step (thumb32 0xF0008000#32 (base 0xF3#32 0x8000#32 []))) = true := by
  decide +kernel

/-- V20.5: STR r0, [r1]: manager domain 1 ignores AP = 00. -/
theorem test_V20_5 :
    after (step ({ arm 0xE5810000#32 (poke 0x4004#32 0x20000022#32 (poke 0x4000#32 0xC02#32
      (base 0xD3#32 0x8000#32 [(0, 0x77#32),
        (1, 0x100004#32)]))) with control := 0x71#32, ttb := 0x4000#32, dacr := 0xD#32 }))
    (fun t => t.cpsr == 0xD3#32 && t.pc == 0x8004#32 && t.mem.read .word 0x20000004#32 == 0x77#32) = true := by
  decide +kernel

/-- V20.18: LDRB r0, [r1, #3] with A = 1: bytes never misalign. -/
theorem test_V20_18 :
    after (step ({ arm 0xE5D10003#32 (poke 0x4000#32 0xC02#32 (poke 0x1000#32 0x11223344#32
      (base 0xD3#32 0x8000#32 [(1, 0x1000#32)]))) with control := 0x73#32, ttb := 0x4000#32, dacr := 0x1#32 }))
    (fun t => cell .r0 t == 0x11#32 && t.cpsr == 0xD3#32 && t.pc == 0x8004#32) = true := by
  decide +kernel


/-! ## Instructions and operations that the vectors above do not name -/

/-- V40.12 to V40.21: shifts by immediates and by registers, at the edges. -/
theorem test_shift_vectors :
    [(shiftImm .lsl 0#5 0x80000000#32 true, (⟨0x80000000#32, true⟩ : Shifted)),
      (shiftImm .lsr 0#5 0x80000000#32 false, ⟨0#32, true⟩), (shiftImm .asr 0#5 0x80000000#32 false, ⟨0xFFFFFFFF#32, true⟩),
      (shiftImm .ror 0#5 3#32 true, ⟨0x80000001#32, true⟩), (shiftReg .lsl 0#8 0xF#32 false, ⟨0xF#32, false⟩),
      (shiftReg .lsl 32#8 1#32 false, ⟨0#32, true⟩), (shiftReg .lsl 33#8 1#32 true, ⟨0#32, false⟩),
      (shiftReg .lsr 0x20#8 0x80000000#32 false, ⟨0#32, true⟩), (shiftReg .ror 32#8 0x80000000#32 false, ⟨0x80000000#32, true⟩),
      (shiftReg .asr 200#8 0x80000000#32 false, ⟨0xFFFFFFFF#32, true⟩)].all (fun p => p.1 == p.2) = true := by
  decide +kernel

/-- The table of V20: translation on, the table at 0x4000, domain 0 a client. -/
def mapped (cpsr control dacr : Word) (ms : List (Word × Word)) : State :=
  ms.foldl (fun s m => poke m.1 m.2 s)
    { base cpsr 0x8000#32 [] with control := control, ttb := 0x4000#32, dacr := dacr }

/-- V20.1, V20.3, V20.4, V20.5: a section under each domain control. -/
theorem test_section_vectors :
    (mapped 0xD3#32 0x71#32 1#32 [(0x4004#32, 0x20000C02#32)]).translation 0x100010#32 .word true true = .ok 0x20000010#32
      ∧ (mapped 0xD3#32 0x71#32 1#32 [(0x4004#32, 0x20000C22#32)]).translation 0x100000#32 .word true true
        = .fault .domainSection (some 1#4)
      ∧ (mapped 0xD3#32 0x71#32 9#32 [(0x4004#32, 0x20000C22#32)]).translation 0x100000#32 .word true true
        = .fault .domainSection (some 1#4)
      ∧ (mapped 0xD3#32 0x71#32 0xD#32 [(0x4004#32, 0x20000022#32)]).translation 0x100004#32 .word true false
        = .ok 0x20000004#32 := by
  decide +kernel

/-- V20.2, V20.6 to V20.11 and V20.17: the first-level, permission and alignment faults. -/
theorem test_permission_vectors :
    (mapped 0xD3#32 0x71#32 1#32 []).translation 0x300000#32 .word true true = .fault .transSection none
      ∧ (mapped 0x10#32 0x71#32 1#32 [(0x4004#32, 0x20000402#32)]).translation 0x100000#32 .word false true
        = .fault .permSection (some 0#4)
      ∧ (mapped 0x10#32 0x71#32 1#32 [(0x4004#32, 0x20000802#32)]).translation 0x100000#32 .word false true
        = .ok 0x20000000#32
      ∧ (mapped 0x10#32 0x71#32 1#32 [(0x4004#32, 0x20000802#32)]).translation 0x100000#32 .word false false
        = .fault .permSection (some 0#4)
      ∧ (mapped 0xD3#32 0x171#32 1#32 [(0x4004#32, 0x20000002#32)]).translation 0x100000#32 .word true true
        = .ok 0x20000000#32
      ∧ (mapped 0xD3#32 0x171#32 1#32 [(0x4004#32, 0x20000002#32)]).translation 0x100000#32 .word true false
        = .fault .permSection (some 0#4)
      ∧ (mapped 0xD3#32 0x371#32 1#32 [(0x4004#32, 0x20000002#32)]).translation 0x100000#32 .word true true
        = .refused (.unpredictable .reservedPermission)
      ∧ (mapped 0xD3#32 0x73#32 1#32 []).translation 0x1002#32 .word true true = .fault .align none := by
  decide +kernel

/-- V20.12 to V20.16: small, large and tiny pages, a second-level fault, and a sub-page's permission. -/
theorem test_page_vectors :
    (mapped 0xD3#32 0x71#32 1#32 [(0x4008#32, 0x5001#32), (0x500C#32, 0x77FF2#32)]).translation 0x203010#32 .word true true
        = .ok 0x77010#32
      ∧ (mapped 0xD3#32 0x71#32 1#32 [(0x4008#32, 0x5001#32), (0x5010#32, 0x80FF1#32)]).translation 0x204020#32 .word true
          true = .ok 0x84020#32
      ∧ (mapped 0xD3#32 0x71#32 1#32 [(0x4008#32, 0x5021#32)]).translation 0x205000#32 .word true true
        = .fault .transPage (some 1#4)
      ∧ (mapped 0x10#32 0x71#32 1#32 [(0x4008#32, 0x5001#32), (0x500C#32, 0x77F72#32)]).translation 0x203400#32 .word false
          true = .fault .permPage (some 0#4)
      ∧ (mapped 0xD3#32 0x71#32 1#32 [(0x400C#32, 0x6003#32), (0x6004#32, 0x99033#32)]).translation 0x300410#32 .word true
          true = .ok 0x99010#32 := by
  decide +kernel

/-- The state after an exception's entry has a CPSR, a PC, a return address and a saved CPSR. -/
def enters (s : State) (k : ExcKind) (cpsr pc lr : Word) : Bool :=
  let t := s.enterException k
  t.cpsr == cpsr && t.pc == pc && t.reg 14#4 == lr && t.spsr.get k.bank == s.cpsr

/-- V60.1, V60.2, V60.4 to V60.11, V60.15 and V60.17: the entries of the exceptions. -/
theorem test_entry_vectors :
    (enters (base 0x13#32 0x8000#32 []) .irq 0x92#32 0x18#32 0x8008#32
      && enters { base 0x13#32 0x8000#32 [] with irqLrOffset := .four } .irq 0x92#32 0x18#32 0x8004#32
      && enters (base 0x10#32 0x8000#32 []) .fiq 0xD1#32 0x1C#32 0x8008#32
      && enters (base 0x33#32 0x8000#32 []) .irq 0x92#32 0x18#32 0x8008#32
      && enters (base 0xD3#32 0x8000#32 []) .softwareInterrupt 0xD3#32 0x8#32 0x8004#32
      && enters (base 0xF3#32 0x8002#32 []) .softwareInterrupt 0xD3#32 0x8#32 0x8004#32
      && enters (base 0xD3#32 0x8000#32 []) .undefinedInstruction 0xDB#32 0x4#32 0x8004#32
      && enters (base 0xD3#32 0x8000#32 []) .prefetchAbort 0xD7#32 0xC#32 0x8004#32
      && enters (base 0xD3#32 0x8000#32 []) .dataAbort 0xD7#32 0x10#32 0x8008#32
      && enters { base 0xD3#32 0x8000#32 [] with control := 0x2070#32 } .softwareInterrupt 0xD3#32 0xFFFF0008#32 0x8004#32
      && enters (base 0xF3#32 0x8000#32 []) .undefinedInstruction 0xDB#32 0x4#32 0x8002#32
      && enters (base 0xF3#32 0x8000#32 []) .prefetchAbort 0xD7#32 0xC#32 0x8004#32) = true := by
  decide +kernel

/-- V70.1 and V70.2: the first step after power-on fetches at the reset vector. -/
theorem test_first_step_after_reset :
    after (step (poke 0#32 0xE3A00001#32 (State.powerOn false)))
        (fun t => t.pc == 4#32 && t.cpsr == 0xD3#32 && cell .r0 t == 1#32 && t.spsr.svc == 0xD3#32) = true
      ∧ after (step (poke 0xFFFF0000#32 0xE3A00001#32 (State.powerOn true)))
        (fun t => t.pc == 0xFFFF0004#32 && t.cpsr == 0xD3#32 && cell .r0 t == 1#32 && t.control == 0x2070#32) = true := by
  decide +kernel

/-- The fetch interface: ADDS r0, r1, r2; Thumb MOV r0, #1; Thumb BL, whose first halfword is bits [31:16]. -/
theorem test_with_fetch_word :
    after (step (State.reset.withFetchWord 32 0xE0910002)) (fun t => t.pc == 4#32 && t.cpsr == 0x400000D3#32) = true
      ∧ after (step (State.reset.withFetchWord 16 0x2001)) (fun t => t.pc == 2#32 && cell .r0 t == 1#32) = true
      ∧ after (step (State.reset.withFetchWord 32 0xF000F802)) (fun t => t.pc == 8#32 && cell .r14svc t == 5#32) = true
      ∧ decodeTableWord 32 0xE0910002 = some (.armAdd .al true 1#4 0#4 (.immShift 2#4 .lsl 0#5)) := by
  decide +kernel

/-- STRBT in a privileged mode is checked as User; the byte goes to the post-indexed base (R512). -/
theorem test_strbt :
    after (step (arm 0xE4E10001#32 (base 0xD3#32 0x8000#32 [(0, 0x1234#32), (1, 0x1003#32)])))
      (fun t => t.mem.readByte 0x1003 == 0x34#8 && t.reg 1#4 == 0x1004#32) = true := by
  decide +kernel

/-- PLD with a register offset changes nothing but the PC (R522). -/
theorem test_pld_register :
    after (step (arm 0xF7D1F002#32 (base 0xD3#32 0x8000#32 [(1, 0xFFFFFFFF#32)])))
      (fun t => t.pc == 0x8004#32 && t.reg 1#4 == 0xFFFFFFFF#32 && t.pending == Pending.empty) = true := by
  decide +kernel

/-- SUB(2): 0 - 1 borrows (R761). -/
theorem test_thumb_sub_imm8 :
    after (step (thumb 0x3801#16 (base 0xF3#32 0x8000#32 [])))
      (fun t => t.reg 0#4 == 0xFFFFFFFF#32 && t.cpsr == 0x800000F3#32 && t.pc == 0x8002#32) = true := by
  decide +kernel

/-- ADD(7): sp plus four times the immediate (R783). -/
theorem test_thumb_add_sp :
    after (step (thumb 0xB07F#16 (base 0xF3#32 0x8000#32 [(13, 0x1000#32)])))
      (fun t => t.reg 13#4 == 0x11FC#32 && t.cpsr == 0xF3#32) = true := by
  decide +kernel

/-- The DSP and saturating instructions, and the 32-bit Thumb rows that the core refuses (R457, R854 to R858). -/
theorem test_unsupported :
    [Instr.armSmlaxy .al 0#4 1#4 2#4 false true 3#4, .armSmlawy .al 0#4 1#4 2#4 false 3#4,
      .armSmulwy .al 0#4 0#4 2#4 true 3#4, .armSmlalxy .al 0#4 1#4 2#4 true true 3#4, .armQsub .al 0#4 1#4 0#4 3#4,
      .armQdadd .al 0#4 1#4 0#4 3#4, .armQdsub .al 0#4 1#4 0#4 3#4, .thumb32BT4 false 0#10 true true 0#11,
      .thumb32Smc 0#4 0#12, .thumb32Msr 0#5 false 0#12, .thumb32Hint 0xF#4 false 0#12, .thumb32MiscCtl 0#4 false 0#12,
      .thumb32Bxj 0#4 false 0#12, .thumb32SubsPcLr 0#4 false 0#12, .thumb32Mrs 0#5 false 0#12,
      .thumb32BrMiscUndef 0#3 0#4 false 0#12, .thumb32DpImm 0#11 0#15, .thumb32Space01 0#27, .thumb32Space11 0#27].all
      (fun i => unsupported (exec i (base 0xD3#32 0x8000#32 []))) = true := by
  decide +kernel

/-- The other forms addressed to CP15 in a privileged mode stop; for an absent coprocessor under the policy Undefined
they raise (R700, R706 to R710). -/
theorem test_coprocessor_forms :
    [(4 : BitVec 4), 15#4].all (fun cp =>
      [Instr.armLdc .al true true false false 1#4 0#4 cp 0#8, .armMrrc .al 0#4 1#4 cp 0#4 0#4,
        .armCdp2 0#4 0#4 0#4 cp 0#3 0#4, .armLdc2 true true false false 1#4 0#4 cp 0#8,
        .armStc2 true true false false 1#4 0#4 cp 0#8, .armMcr2 0#3 0#4 1#4 cp 0#3 0#4, .armMrc2 0#3 0#4 1#4 cp 0#3 0#4].all
        fun i =>
          let o := exec i { base 0xD3#32 0x8000#32 [] with absentCp := .undefined }
          if cp == 15#4 then unsupported o
          else after o fun t => t.pending.first == some .undefinedInstruction) = true := by
  decide +kernel

/-- The outcome is the stop Unpredictable with this reason. -/
def unpredictableFor (why : UnpredictableReason) (o : Host.Outcome State Fault Refusal) : Bool :=
  match o with
  | .refused r => r == .unpredictable why
  | _ => false

/-- LDRD and STRD with the alignment check on: the word access faults at an address that is no multiple of 4, one that
is a multiple of 4 but not of 8 stops (R207, R212, log entry 21). -/
theorem test_doubleword_alignment :
    let s (a : Word) : State := { mapped 0xD3#32 0x73#32 1#32 [] with regs := (base 0xD3#32 0#32 [(4, a)]).regs }
    [Instr.armLdrd .al true true false 4#4 0#4 (.imm 0#8), .armStrd .al true true false 4#4 0#4 (.imm 0#8)].all (fun i =>
      after (exec i (s 0x2002#32)) (fun t => t.pending == { Pending.empty with dataAbort := some .mmuFault }
          && t.far == 0x2002#32 && t.faultFlag && t.reg 4#4 == 0x2002#32)
        && unpredictableFor .misalignedDoubleword (exec i (s 0x2004#32))
        && unpredictableFor .misalignedDoubleword (exec i { s 0x2002#32 with control := 0x70#32 })) = true := by
  decide +kernel

/-- The should-be-zero field of LDRD and STRD is tested before the register pair (R306). -/
theorem test_doubleword_should_be :
    [Instr.armLdrd .al true true false 4#4 1#4 (.reg 1#4 2#4), .armStrd .al true true false 4#4 1#4 (.reg 1#4 2#4)].all (fun i =>
      unpredictableFor .shouldBeField (exec i (base 0xD3#32 0x8000#32 []))) = true := by
  decide +kernel

/-! ## Witnesses

For each obligation with hypotheses, concrete states and operands that meet them, clause by clause. -/

/-- A next state with a property is a next state. -/
theorem exists_next {o : Host.Outcome State Fault Refusal} {p : State → Bool} (h : after o p = true) :
    ∃ t, o = .next t ∧ p t = true := by
  cases o with
  | next t => exact ⟨t, rfl, h⟩
  | fault f => cases h
  | refused r => cases h

/-- A privileged state in ARM state: r1 a low address, r2 an odd one, r3 the top word of memory, r4 a multiple of 8. -/
def armState : State :=
  base 0x200000D3#32 0x8000#32 [(1, 0x1000#32), (2, 0x1003#32), (3, 0xFFFFFFFC#32), (4, 0x2000#32), (5, 0x80000000#32)]

/-- The same in Thumb state. -/
def thumbState : State := { armState with cpsr := 0x200000F3#32 }

/-- The same in User mode. -/
def userState : State := { armState with cpsr := 0x20000010#32 }

/-- DecodeOfEncode, DecodeOfBytes. -/
theorem witness_wellFormed :
    (Instr.armAnd .nv true 15#4 15#4 (.imm 15#4 255#8)).wellFormed = false
      ∧ (Instr.armAnd .al true 15#4 15#4 (.imm 15#4 255#8)).wellFormed = true
      ∧ (Instr.thumbB 0x7FF#11).wellFormed = true ∧ (Instr.thumb32Bl true 0x3FF#10 true true 0x7FF#11).wellFormed = true := by
  decide +kernel

/-- EveryWordDecodes: the halfwords on both sides of the 32-bit prefixes' edge. -/
theorem witness_prefixes :
    isThumb32Prefix 0xE7FF#16 = false ∧ isThumb32Prefix ((0xE8000000#32).extractLsb' 16 16) = true
      ∧ isThumb32Prefix ((0xFFFFFFFF#32).extractLsb' 16 16) = true := by
  decide +kernel

/-- StepRunsDecodedInstruction: an ARM word, a Thumb halfword, and a pair of halfwords, each with its lines masked. -/
theorem witness_stepRunsDecodedInstruction :
    (let s := arm 0xE0910002#32 { armState with lines := [⟨true, true⟩] }
     s.waiting = false ∧ s.pending = Pending.empty ∧ (s.currentLines.fiq && !psrF s.cpsr) = false
      ∧ (s.currentLines.irq && !psrI s.cpsr) = false ∧ psrT s.cpsr = false ∧ s.fetchesAt s.pc .word 0x8000#32
      ∧ decodeBytes false [s.mem.readByte 0x8000, s.mem.readByte 0x8001, s.mem.readByte 0x8002, s.mem.readByte 0x8003]
        = .ok (.armAdd .al true 1#4 0#4 (.immShift 2#4 .lsl 0#5), []))
    ∧ (let s := thumb 0x2001#16 thumbState
       s.waiting = false ∧ s.pending = Pending.empty ∧ psrT s.cpsr = true ∧ s.fetchesAt s.pc .half 0x8000#32
        ∧ decodeBytes true [s.mem.readByte 0x8000, s.mem.readByte 0x8001] = .ok (.thumbMovImm 0#3 1#8, []))
    ∧ (let s := thumb32 0xF000F802#32 thumbState
       psrT s.cpsr = true ∧ s.fetchesAt s.pc .half 0x8000#32 ∧ s.fetchesAt (s.pc + 2#32) .half 0x8002#32
        ∧ decodeBytes true [s.mem.readByte 0x8000, s.mem.readByte 0x8001, s.mem.readByte 0x8002, s.mem.readByte 0x8003]
          = .ok (.thumb32Bl false 0#10 true true 2#11, [])) := by
  unfold State.fetchesAt; decide +kernel

/-- ConditionRule: a condition that fails, of a conditional instruction and of an UNDEFINED word. -/
theorem witness_conditionRule :
    condPassed .eq armState.cpsr = false ∧ (Instr.armB .eq 0#24).condOf = some .eq
      ∧ (∀ h l, Instr.armB .eq 0#24 ≠ .armBkpt .eq h l)
      ∧ (0x07F000F0#32 : Word).extractLsb' 28 4 ≠ 0xF#4 ∧ Cond.eq = .ofBits ((0x07F000F0#32 : Word).extractLsb' 28 4) := by
  refine ⟨by decide +kernel, rfl, ?_, by decide, by decide⟩
  intro h l e
  cases e

/-- FlagWrites, ShiftsAreExact: the last bit, and the shift amounts at the ends of their ranges. -/
theorem witness_shiftAmounts : 31 < 32 ∧ (1#8 : Byte) ≠ 0#8 ∧ (255#8 : Byte) ≠ 0#8 ∧ 1#5 ≠ 0#5 ∧ 31#5 ≠ 0#5 := by
  decide

/-- LogicalResult, ArithmeticResult, TestResult: r15 as a plain operand is no restriction, in a register shift it is. -/
theorem witness_dataProcessing :
    condPassed .cs armState.cpsr = true ∧ regShiftUsesPc 15#4 14#4 (.immShift 15#4 .ror 0#5) = false ∧ 14#4 ≠ 15#4
      ∧ regShiftUsesPc 1#4 0#4 (.regShift 2#4 .lsl 14#4) = false ∧ regShiftUsesPc 1#4 0#4 (.regShift 2#4 .lsl 15#4) = true
      ∧ regShiftUsesPc 0#4 15#4 (.regShift 2#4 .lsl 3#4) = true ∧ 1#4 ≠ 0#4 := by
  decide +kernel

/-- DataProcessingToPc: a form of each list, with an aligned and a misaligned result, in a mode with and without an
SPSR, and with a legal and a malformed saved mode. -/
theorem witness_dataProcessingToPc :
    condPassed .al armState.cpsr = true ∧ regShiftUsesPc 15#4 15#4 (.imm 0#4 4#8) = false
      ∧ (Instr.armMvn .al true 0#4 15#4 (.imm 0#4 4#8), DpOp.mvn)
        ∈ dpForms .al true 15#4 15#4 (.imm 0#4 4#8) ++ moveForms .al true 15#4 (.imm 0#4 4#8)
      ∧ (Instr.armAnd .al false 15#4 15#4 (.imm 0#4 4#8), DpOp.and)
        ∈ dpForms .al false 15#4 15#4 (.imm 0#4 4#8) ++ moveForms .al false 15#4 (.imm 0#4 4#8)
      ∧ (armState.aluTo 0xFFFFFFFC#32).isSome = true ∧ (armState.aluTo 0xFFFFFFFE#32).isSome = false
      ∧ armState.mode.bank = some .svc ∧ userState.mode.bank = none
      ∧ (Mode.ofBits (psrM 0x1F#32)).isSome = true ∧ (Mode.ofBits (psrM 0#32)).isSome = false := by
  decide +kernel

/-- AddSubRoundTrip, MultiplyResult, LongMultiplyResult. -/
theorem witness_registers :
    (0#4 ≠ 15#4 ∧ 14#4 ≠ 15#4 ∧ 14#4 ≠ 0#4) ∧ condPassed .al armState.cpsr = true
      ∧ (14#4 ≠ 15#4 ∧ 0#4 ≠ 15#4 ∧ 1#4 ≠ 15#4 ∧ 2#4 ≠ 15#4 ∧ 14#4 ≠ 0#4 ∧ 14#4 ≠ 1#4 ∧ 0#4 ≠ 1#4) := by
  decide +kernel

/-- UnsupportedStops: a clear J1. -/
theorem witness_unsupportedStops : condPassed .al armState.cpsr = true ∧ 1#4 ≠ 0#4 ∧ (false && true) = false := by
  decide +kernel

/-- LoadWordResult: the top word, a misaligned address, the PC from an aligned and a misaligned one, and LDRT. -/
theorem witness_loadWordResult :
    condPassed .al armState.cpsr = true ∧ offset2UsesPc (.imm 0#12) = false ∧ offset2UsesPc (.reg 15#4 .lsl 0#5) = true
      ∧ mode2Restricted .offset 3#4 0#4 = false ∧ mode2Restricted .preIndexed 3#4 3#4 = true
      ∧ armState.loadsAt (armState.mode2Address true .offset 3#4 (.imm 3#12)).ea .word true 0xFFFFFFFF#32
      ∧ (armState.mode2Address true .offset 3#4 (.imm 3#12)).ea.toNat % 4 ≠ 0
      ∧ (armState.mode2Address true .offset 3#4 (.imm 0#12)).ea.toNat % 4 = 0
      ∧ armState.loadsAt (armState.mode2Address true .offset 3#4 (.imm 0#12)).ea .word armState.privileged 0xFFFFFFFC#32
      ∧ mode2Restricted .postIndexed 3#4 0#4 = false
      ∧ armState.loadsAt (armState.mode2Address true .postIndexed 3#4 (.imm 4#12)).ea .word false 0xFFFFFFFC#32 := by
  unfold State.loadsAt; decide +kernel

/-- LoadNarrowResult: bytes at an odd address, halfwords at an even one, and the odd halfword. -/
theorem witness_loadNarrowResult :
    condPassed .al armState.cpsr = true ∧ mode2Restricted .preIndexed 2#4 0#4 = false
      ∧ armState.loadsAt (armState.mode2Address true .preIndexed 2#4 (.imm 0#12)).ea .byte armState.privileged 0x1003#32
      ∧ armState.loadsAt (armState.mode2Address true .postIndexed 2#4 (.imm 1#12)).ea .byte false 0x1003#32
      ∧ offset3UsesPc (.reg 0#4 14#4) = false ∧ offset3SbOk (.reg 0#4 14#4) = true ∧ offset3SbOk (.reg 1#4 14#4) = false
      ∧ mode3Restricted true true 2#4 0#4 = false ∧ mode3Restricted false true 2#4 0#4 = true
      ∧ armState.loadsAt (armState.mode3Address true true true 2#4 (.imm 0#8)).ea .byte armState.privileged 0x1003#32
      ∧ armState.oddHalfword (armState.mode3Address true true true 2#4 (.imm 0#8)).ea = true
      ∧ armState.oddHalfword (armState.mode3Address true true true 2#4 (.imm 1#8)).ea = false
      ∧ armState.loadsAt (armState.mode3Address true true true 2#4 (.imm 1#8)).ea .half armState.privileged 0x1004#32 := by
  unfold State.loadsAt; decide +kernel

/-- StoreResult, StoreDoubleResult: the top word, a byte, a halfword, a User store, a pair, and a second word that
faults. -/
theorem witness_storeResult :
    condPassed .al armState.cpsr = true ∧ armState.mem.wf = true
      ∧ armState.storesAt (armState.mode2Address true .offset 3#4 (.imm 0#12)).ea .word armState.privileged 0xFFFFFFFC#32
      ∧ armState.storesAt (armState.mode2Address true .offset 2#4 (.imm 0#12)).ea .byte armState.privileged 0x1003#32
      ∧ armState.storesAt (armState.mode2Address true .postIndexed 3#4 (.imm 0#12)).ea .word false 0xFFFFFFFC#32
      ∧ armState.storesAt (armState.mode2Address true .postIndexed 2#4 (.imm 0#12)).ea .byte false 0x1003#32
      ∧ armState.oddHalfword (armState.mode3Address true true false 2#4 (.imm 1#8)).ea = false
      ∧ armState.oddHalfword (armState.mode3Address true true false 2#4 (.imm 0#8)).ea = true
      ∧ armState.storesAt (armState.mode3Address true true false 2#4 (.imm 1#8)).ea .half armState.privileged 0x1004#32
      ∧ (0#4 : RegNum).toNat % 2 = 0 ∧ 0#4 ≠ 14#4 ∧ pairWriteBack true true 4#4 0#4 = false
      ∧ pairWriteBack true true 1#4 0#4 = true ∧ offset3InPair 0#4 (.reg 0#4 1#4) = true ∧ offset3InPair 0#4 (.imm 8#8) = false
      ∧ mode3Restricted true true 4#4 0#4 = false
      ∧ (armState.mode3Address true true true 4#4 (.imm 0#8)).ea.toNat % 8 = 0
      ∧ (armState.mode3Address true true true 4#4 (.imm 4#8)).ea.toNat % 8 ≠ 0
      ∧ armState.storesAt 0x2000#32 .word true 0x2000#32 ∧ armState.storesAt (0x2000#32 + 4#32) .word true 0x2004#32
      ∧ armState.loadsAt 0x2000#32 .word true 0x2000#32 ∧ armState.loadsAt (0x2000#32 + 4#32) .word true 0x2004#32 := by
  unfold State.storesAt State.loadsAt; decide +kernel

/-- A pair at the entry that maps it: the first word clears the entry. -/
def selfEditing : State :=
  { mapped 0xD3#32 0x71#32 3#32 [(0x4000#32, 0xC02#32)] with
    regs := (base 0xD3#32 0#32 [(4, 0x4000#32)]).regs }

/-- StoreDoubleResult: a second word whose translation faults because of the first. -/
theorem witness_storeDoubleAbort :
    let s := selfEditing
    condPassed .al s.cpsr = true ∧ s.mem.wf = true ∧ mode3Restricted true false 4#4 0#4 = false
      ∧ pairWriteBack true false 4#4 0#4 = false ∧ s.pending = Pending.empty
      ∧ (s.mode3Address true true false 4#4 (.imm 0#8)).ea.toNat % 8 = 0
      ∧ s.storesAt (s.mode3Address true true false 4#4 (.imm 0#8)).ea .word s.privileged 0x4000#32
      ∧ (s.store .word 0x4000#32 (s.reg 0#4)).translation (0x4000#32 + 4#32) .word s.privileged false
        = .fault .transSection none := by
  unfold State.storesAt; decide +kernel

/-- An access that faults or whose probe fails aborts. -/
theorem aborts_fault {s : State} {a : Word} {n : AccSize} {p r : Bool}
    (h : (match s.translation a n p r with | .fault _ _ => true | _ => false) = true) :
    ∃ t, s.abortsAt a n p r t := by
  split at h
  · next st dom ht => exact ⟨_, .inl ⟨st, dom, ht, rfl⟩⟩
  · cases h

theorem aborts_bus {s : State} {a pa : Word} {n : AccSize} {p r : Bool} (h : s.translation a n p r = .ok pa)
    (hb : (if r then tryRead s n (n.align pa) else tryWrite s n (n.align pa)) = false) :
    ∃ t, s.abortsAt a n p r t := ⟨_, .inr ⟨pa, h, hb, rfl⟩⟩

/-- A bus that answers nothing from 0x1004 or from 0x2004 on. -/
def holes : List BusHole := [⟨0x1004, 0x1FFF, none, true, true⟩, ⟨0x2004, 0x2FFF, none, true, true⟩]

/-- LoadDoubleResult, StoreDoubleResult: the alignment check on, an address that is no multiple of 4 and one that is a
multiple of 4 but not of 8; an abort on the first word and on the second; a should-be-zero field that is not zero. -/
theorem witness_doublewordAborts :
    (let s := mapped 0xD3#32 0x73#32 1#32 []
     s.mmuOn = true ∧ s.alignCheck = true ∧ s.faultFlag = false ∧ s.pending = Pending.empty
      ∧ (s.mode3Address true true false 4#4 (.imm 2#8)).ea.toNat % 4 ≠ 0
      ∧ (s.mode3Address true true false 4#4 (.imm 4#8)).ea.toNat % 8 ≠ 0
      ∧ (s.mode3Address true true false 4#4 (.imm 4#8)).ea.toNat % 4 = 0
      ∧ (s.mode3Address true true false 4#4 (.imm 8#8)).ea.toNat % 8 = 0
      ∧ (∃ t, s.abortsAt (s.mode3Address true true false 4#4 (.imm 8#8)).ea .word s.privileged true t)
      ∧ ∃ t, s.abortsAt (s.mode3Address true true false 4#4 (.imm 8#8)).ea .word s.privileged false t)
    ∧ (let s : State := { armState with bus := holes }
       (s.mode3Address true true false 4#4 (.imm 0#8)).ea.toNat % 8 = 0
        ∧ s.loadsAt (s.mode3Address true true false 4#4 (.imm 0#8)).ea .word s.privileged 0x2000#32
        ∧ s.storesAt (s.mode3Address true true false 4#4 (.imm 0#8)).ea .word s.privileged 0x2000#32
        ∧ (∃ t, s.abortsAt ((s.mode3Address true true false 4#4 (.imm 0#8)).ea + 4#32) .word s.privileged true t)
        ∧ ∃ t, (s.store .word 0x2000#32 (s.reg 0#4)).abortsAt ((s.mode3Address true true false 4#4 (.imm 0#8)).ea + 4#32)
            .word s.privileged false t)
    ∧ offset3SbOk (.reg 1#4 14#4) = false := by
  refine ⟨⟨rfl, rfl, rfl, rfl, by decide +kernel, by decide +kernel, by decide +kernel, by decide +kernel,
    aborts_fault (by decide +kernel), aborts_fault (by decide +kernel)⟩, ⟨by decide +kernel, ?_, ?_,
    aborts_bus (pa := 0x2004#32) (by decide +kernel) (by decide +kernel),
    aborts_bus (pa := 0x2004#32) (by decide +kernel) (by decide +kernel)⟩, by decide⟩
  · unfold State.loadsAt; decide +kernel
  · unfold State.storesAt; decide +kernel

/-- SwapResult: a section that User mode may read but not write, and a probe that fails. -/
theorem witness_swapAborts :
    (let s := mapped 0x10#32 0x71#32 1#32 [(0x4004#32, 0x20000802#32)]
     s.faultFlag = false ∧ s.pending = Pending.empty
      ∧ s.translation 0x100000#32 .word s.privileged true = .ok 0x20000000#32
      ∧ s.translation 0x100000#32 .word s.privileged false = .fault .permSection (some 0#4)
      ∧ s.translation 0x100001#32 .byte s.privileged true = .ok 0x20000001#32
      ∧ s.translation 0x100001#32 .byte s.privileged false = .fault .permSection (some 0#4))
    ∧ (let s : State := { armState with bus := [⟨0x1000, 0x1003, none, false, true⟩] }
       s.translation (s.reg 1#4) .word s.privileged true = .ok 0x1000#32
        ∧ s.translation (s.reg 1#4) .word s.privileged false = .ok 0x1000#32
        ∧ (tryRead s .word (AccSize.word.align 0x1000#32) = false ∨ tryWrite s .word (AccSize.word.align 0x1000#32) = false))
    ∧ (Instr.armSwpb .al 1#4 0#4 0#4 2#4, AccSize.byte)
      ∈ [(Instr.armSwp .al 1#4 0#4 0#4 2#4, AccSize.word), (.armSwpb .al 1#4 0#4 0#4 2#4, .byte)] := by
  decide +kernel

/-- LoadMultipleResult, LoadMultipleReturns, StoreMultipleResult, ThumbStoreMultiple, ThumbLoadMultiple: the second
word of a list aborts. -/
theorem witness_listAborts :
    (let s : State := { armState with bus := holes }
     let start := startOf false true (s.reg 1#4) (listRegs 0x8005#16).length
     s.faultFlag = false ∧ s.pending = Pending.empty ∧ 1 < (listRegs 0x8005#16).length
      ∧ (0x8005#16).getLsbD (1#4 : RegNum).toNat = false ∧ s.mode.bank ≠ none
      ∧ (s.loadWords s.privileged ((listRegs 0x8005#16).take 1) start).isSome = true
      ∧ (∃ t, s.abortsAt (start + BitVec.ofNat 32 (4 * 1)) .word s.privileged true t)
      ∧ ∃ q v, storeWords s.privileged s (((listRegs 0x8005#16).map s.reg).take 1) start = some q
        ∧ q.abortsAt (start + BitVec.ofNat 32 (4 * 1)) .word s.privileged false v)
    ∧ (let s : State := { thumbState with bus := holes, regs := (base 0xF3#32 0#32 [(13, 0x1000#32), (1, 0x2000#32)]).regs }
       1 < (listRegs ((0x05#8).setWidth 16)).length
        ∧ (s.loadWords s.privileged ((listRegs ((0x05#8).setWidth 16 ||| 0x8000#16)).take 1) (s.reg 13#4)).isSome = true
        ∧ (s.loadWords s.privileged ((listRegs ((0x05#8).setWidth 16)).take 1) (s.reg 1#4)).isSome = true
        ∧ (∃ t, s.abortsAt (s.reg 13#4 + BitVec.ofNat 32 (4 * 1)) .word s.privileged true t)
        ∧ (∃ t, s.abortsAt (s.reg 1#4 + BitVec.ofNat 32 (4 * 1)) .word s.privileged true t)
        ∧ ∃ q v, storeWords s.privileged s (((listRegs ((0x05#8).setWidth 16)).map s.reg).take 1) (s.reg 1#4) = some q
          ∧ q.abortsAt (s.reg 1#4 + BitVec.ofNat 32 (4 * 1)) .word s.privileged false v) := by
  refine ⟨⟨rfl, rfl, by decide, by decide, by decide +kernel, by decide +kernel,
    aborts_bus (pa := 0x1004#32) (by decide +kernel) (by decide +kernel), ?_⟩,
    ⟨by decide, by decide +kernel, by decide +kernel,
      aborts_bus (pa := 0x1004#32) (by decide +kernel) (by decide +kernel),
      aborts_bus (pa := 0x2004#32) (by decide +kernel) (by decide +kernel), ?_⟩⟩
  · exact ⟨{ armState with bus := holes }.store .word 0x1000#32 0#32, _, rfl,
      .inr ⟨0x1004#32, by decide +kernel, by decide +kernel, rfl⟩⟩
  · exact ⟨State.store { thumbState with
        bus := holes, regs := (base 0xF3#32 0#32 [(13, 0x1000#32), (1, 0x2000#32)]).regs } .word 0x2000#32 0#32, _, rfl,
      .inr ⟨0x2004#32, by decide +kernel, by decide +kernel, rfl⟩⟩

/-- SwapResult: the top word; a first-level fault. -/
theorem witness_swapResult :
    condPassed .al armState.cpsr = true ∧ armState.mem.wf = true ∧ armState.reg 3#4 = 0xFFFFFFFC#32
      ∧ 0#4 ≠ 15#4 ∧ 1#4 ≠ 15#4 ∧ 3#4 ≠ 15#4 ∧ 3#4 ≠ 1#4 ∧ 3#4 ≠ 0#4
      ∧ armState.loadsAt 0xFFFFFFFC#32 .word armState.privileged 0xFFFFFFFC#32
      ∧ armState.storesAt 0xFFFFFFFC#32 .word armState.privileged 0xFFFFFFFC#32
      ∧ armState.loadsAt 0xFFFFFFFC#32 .byte armState.privileged 0xFFFFFFFC#32
      ∧ armState.storesAt 0xFFFFFFFC#32 .byte armState.privileged 0xFFFFFFFC#32
      ∧ (let s := mapped 0xD3#32 0x71#32 1#32 []
         s.faultFlag = false ∧ s.pending = Pending.empty
          ∧ s.translation (s.reg 3#4) .word s.privileged true = .fault .transSection none) := by
  unfold State.storesAt State.loadsAt; decide +kernel

/-- PreloadDoesNothing: a should-be-one field with one bit clear, and clear transient flags. -/
theorem witness_preload : 0xE#4 ≠ 0xF#4 ∧ armState.jumped = false ∧ armState.faultFlag = false := by decide +kernel

/-- LoadMultipleResult, ThumbLoadMultiple: lists with and without the PC, the whole list, and the User bank. -/
theorem witness_loadMultiple :
    condPassed .al armState.cpsr = true ∧ armState.faultFlag = false ∧ 3#4 ≠ 15#4 ∧ 0x8001#16 ≠ 0#16
      ∧ (0x8001#16).getLsbD (3#4 : RegNum).toNat = false ∧ (0x0007#16).getLsbD 15 = false
      ∧ (∃ vs, armState.loadWords armState.privileged (listRegs 0x0007#16) (startOf false true (armState.reg 3#4) 3) = some vs)
      ∧ (∃ vs v, armState.loadWords armState.privileged (listRegs 0x8001#16) (startOf true false (armState.reg 1#4) 2) = some vs
        ∧ (15#4, v) ∈ vs)
      ∧ (∃ vs, armState.loadWords armState.privileged (listRegs ((0x7FFF#15).setWidth 16))
          (startOf false false (armState.reg 1#4) 15) = some vs)
      ∧ (∃ vs v, thumbState.loadWords thumbState.privileged (listRegs ((0xFF#8).setWidth 16 ||| 0x8000#16)) (thumbState.reg 13#4)
          = some vs ∧ (15#4, v) ∈ vs)
      ∧ (∃ vs, thumbState.loadWords thumbState.privileged (listRegs ((1#8).setWidth 16)) (thumbState.reg 1#4) = some vs) := by
  refine ⟨by decide +kernel, rfl, by decide, by decide, by decide, by decide, ?_, ?_, ?_, ?_, ?_⟩
  · exact Option.isSome_iff_exists.mp (by decide +kernel)
  · exact ⟨[(0#4, 0#32), (15#4, 0#32)], 0#32, by decide +kernel, by decide⟩
  · exact Option.isSome_iff_exists.mp (by decide +kernel)
  · exact ⟨[(0#4, 0#32), (1#4, 0#32), (2#4, 0#32), (3#4, 0#32), (4#4, 0#32), (5#4, 0#32), (6#4, 0#32), (7#4, 0#32),
      (15#4, 0#32)], 0#32, by decide +kernel, by decide⟩
  · exact Option.isSome_iff_exists.mp (by decide +kernel)

/-- LoadMultipleReturns: a mode without an SPSR; a mode with one whose saved mode is legal. -/
theorem witness_loadMultipleReturns :
    let s := setSpsr .svc 0x10#32 armState
    userState.mode.bank = none ∧ s.mode.bank = some .svc ∧ s.mode.bank ≠ none ∧ s.faultFlag = false
      ∧ (Mode.ofBits (psrM (s.spsr.get .svc))).isSome = true ∧ (0x0001#15).getLsbD (3#4 : RegNum).toNat = false
      ∧ (0x0008#15).getLsbD (3#4 : RegNum).toNat = true
      ∧ s.loadWords s.privileged (listRegs ((0x0001#15).setWidth 16 ||| 0x8000#16)) (startOf false true (s.reg 3#4) 2)
        = some [(0#4, 0#32), (15#4, 0#32)]
      ∧ (15#4, 0#32) ∈ [((0#4 : RegNum), (0#32 : Word)), (15#4, 0#32)] := by
  decide +kernel

/-- StoreMultipleResult, ThumbStoreMultiple: the base lowest in its list; the MMU off; lists that stop. -/
theorem witness_storeMultiple :
    condPassed .al armState.cpsr = true ∧ armState.faultFlag = false ∧ (0x8008#16).getLsbD (3#4 : RegNum).toNat = true
      ∧ (∀ k, k < (3#4 : RegNum).toNat → (0x8008#16).getLsbD k = false)
      ∧ (∃ t, storeWords armState.privileged armState ((listRegs 0x8008#16).map armState.reg)
          (startOf true false (armState.reg 3#4) 2) = some t)
      ∧ (∃ t, storeWords armState.privileged armState ((listRegs 0xFFFF#16).map armState.userReg)
          (startOf false true (armState.reg 3#4) 16) = some t)
      ∧ armState.mmuOn = false ∧ armState.mem.wf = true
      ∧ (∀ k, k < 2 → outsideUnit .word (startOf true false (armState.reg 3#4) 2 + BitVec.ofNat 32 (4 * k)) 0)
      ∧ (0x000C#16).getLsbD (3#4 : RegNum).toNat = true ∧ (∃ k, k < (3#4 : RegNum).toNat ∧ (0x000C#16).getLsbD k = true)
      ∧ (∃ t, storeWords thumbState.privileged thumbState ((listRegs ((0xFF#8).setWidth 16 ||| 0x4000#16)).map thumbState.reg)
          (thumbState.reg 13#4 - 36#32) = some t)
      ∧ (∃ t, storeWords thumbState.privileged thumbState ((listRegs ((0x08#8).setWidth 16)).map thumbState.reg)
          (thumbState.reg 3#4) = some t)
      ∧ (0x08#8).getLsbD (3#3 : LowReg).toNat = true ∧ (∀ k, k < (3#3 : LowReg).toNat → (0x08#8).getLsbD k = false) := by
  refine ⟨by decide +kernel, rfl, by decide, by decide, ?_, ?_, rfl, by decide +kernel, ?_, by decide, ⟨2, by decide, by decide⟩,
    ?_, ?_, by decide, by decide⟩
  · exact Option.isSome_iff_exists.mp (by decide +kernel)
  · exact Option.isSome_iff_exists.mp (by decide +kernel)
  · unfold outsideUnit; decide +kernel
  · exact Option.isSome_iff_exists.mp (by decide +kernel)
  · exact Option.isSome_iff_exists.mp (by decide +kernel)

/-- ArmBranches, Exchanges: a condition that passes, operands that exchange and one that stops. -/
theorem witness_exchanges :
    condPassed .al armState.cpsr = true ∧ condPassed .cs thumbState.cpsr = true ∧ 14#4 ≠ 15#4
      ∧ (armState.exchangeTo 0xFFFFFFFF#32).isSome = true ∧ (armState.exchangeTo 0xFFFFFFFC#32).isSome = true
      ∧ (armState.exchangeTo 0xFFFFFFFE#32).isSome = false ∧ BitVec.ofBool true ++ 7#3 = 15#4
      ∧ BitVec.ofBool true ++ 6#3 ≠ 15#4 ∧ 0#12 ≠ 0xFFF#12 ∧ 7#3 ≠ 0#3 := by
  decide +kernel

/-- StatusRead, StatusWrite: every lane in a privileged mode, the flags lane in User mode, a change of T, a malformed
mode, and an SPSR write. -/
theorem witness_statusWrite :
    condPassed .al armState.cpsr = true ∧ (14#4 ≠ 15#4) ∧ armState.mode.bank = some .svc ∧ userState.mode.bank = none
      ∧ (∀ j, j < 32 →
        (laneWritten 0xF#4 j ∧ (armState.privileged = true ∨ 24 ≤ j) →
          (0x8000001F#32).getLsbD j = (0x8000001F#32).getLsbD j)
        ∧ (¬(laneWritten 0xF#4 j ∧ (armState.privileged = true ∨ 24 ≤ j)) →
          (0x8000001F#32).getLsbD j = armState.cpsr.getLsbD j))
      ∧ psrT 0x8000001F#32 = psrT armState.cpsr ∧ (Mode.ofBits (psrM 0x8000001F#32)).isSome = true
      ∧ (∀ j, j < 32 →
        (laneWritten 0xF#4 j ∧ (userState.privileged = true ∨ 24 ≤ j) →
          (0x80000010#32).getLsbD j = (0x8000001F#32).getLsbD j)
        ∧ (¬(laneWritten 0xF#4 j ∧ (userState.privileged = true ∨ 24 ≤ j)) →
          (0x80000010#32).getLsbD j = userState.cpsr.getLsbD j))
      ∧ psrT 0x3F#32 ≠ psrT armState.cpsr ∧ psrT 0#32 = psrT armState.cpsr ∧ (Mode.ofBits (psrM 0#32)).isSome = false
      ∧ (∀ j, j < 32 → (laneWritten 8#4 j → (0x12000000#32).getLsbD j = (0x12345678#32).getLsbD j)
        ∧ (¬laneWritten 8#4 j → (0x12000000#32).getLsbD j = (armState.spsr.get .svc).getLsbD j)) := by
  unfold laneWritten; decide +kernel

/-- CountLeadingZeros, and the register tests of the restricted forms. -/
theorem witness_countLeadingZeros : condPassed .al armState.cpsr = true ∧ 14#4 ≠ 15#4 ∧ 0xE#4 ≠ 0xF#4 := by
  decide +kernel

/-- ExceptionRequests: conditional and unconditional UNDEFINED words; with and without an exception pending. -/
theorem witness_exceptionRequests :
    condPassed .al armState.cpsr = true ∧ (0xFFFFFFFF#32).extractLsb' 28 4 = 0xF#4
      ∧ condPassed (.ofBits ((0xE7F000F0#32).extractLsb' 28 4)) armState.cpsr = true ∧ armState.pending = Pending.empty
      ∧ (State.powerOn false).pending ≠ Pending.empty ∧ Cond.nv ≠ .al := by
  decide +kernel

/-- Cp15Writes, Cp15Reads, CoprocessorAccess: the privileges, the two policies, values that the control register takes
and refuses, and a process ID. -/
theorem witness_coprocessor :
    condPassed .al armState.cpsr = true ∧ armState.privileged = true ∧ 1#4 ≠ 15#4 ∧ (0x7F7F#32).getLsbD 7 = false
      ∧ (0x7F7F#32).getLsbD 15 = false ∧ (0x80#32).getLsbD 7 = true ∧ (0x8000#32).getLsbD 7 = false
      ∧ (0x8000#32).getLsbD 15 = true ∧ armState.reg 0#4 = 0#32 ∧ armState.reg 1#4 ≠ 0#32 ∧ 1#3 ≠ 0#3
      ∧ (1#4, 0#4, 1#3) ∉ cp15Ids ∧ (7#4, 5#4, 3#3) ∉ cp15Ids ∧ (15#4, 0#4, 0#3) ∉ cp15Ids
      ∧ (8#4, 6#4, 1#3) ∈ cp15Maintenance ∧ armState.absentCp = .unsupported ∧ 14#4 ≠ 15#4
      ∧ ({ armState with absentCp := .undefined } : State).absentCp = .undefined ∧ armState.pending = Pending.empty
      ∧ psrM userState.cpsr = 0b10000#5 ∧ psrM armState.cpsr ≠ 0b10000#5 ∧ userState.pending = Pending.empty := by
  decide +kernel

/-- CoprocessorAccess: a form of each list. -/
theorem witness_coprocessorForms :
    (Instr.armMrc .al 0#3 0#4 0#4 15#4 0#3 0#4, some Cond.al)
        ∈ (Instr.armMcr .al 0#3 0#4 0#4 15#4 0#3 0#4, some Cond.al) :: (.armMrc .al 0#3 0#4 0#4 15#4 0#3 0#4, some .al)
          :: otherCopForms .al true true false false 0#4 0#4 0#4 0#4 15#4 0#3 0#3 0#8
      ∧ (Instr.armMrc2 0#3 0#4 0#4 15#4 0#3 0#4, none)
        ∈ otherCopForms .al true true false false 0#4 0#4 0#4 0#4 15#4 0#3 0#3 0#8 := by
  decide +kernel

/-- ThumbArithmetic, ThumbLogical, ThumbHiAndAddress, ThumbBranches. -/
theorem witness_thumb :
    (false || true) = true ∧ 0#3 ≠ 7#3 ∧ condPassed .cs thumbState.cpsr = true ∧ BitVec.ofBool true ++ 7#3 = 15#4
      ∧ (thumbState.aluTo 0xFFFFFFFF#32).isSome = true := by
  decide +kernel

/-- ThumbLoads, ThumbStores: one access of each size, the top word among them, and an odd halfword. -/
theorem witness_thumbMemory :
    thumbState.mem.wf = true
      ∧ thumbState.loadsAt (thumbState.reg 3#4 + BitVec.ofNat 32 (4 * (0#5).toNat)) .word thumbState.privileged 0xFFFFFFFC#32
      ∧ thumbState.loadsAt (thumbState.reg 2#4 + BitVec.ofNat 32 (0#5).toNat) .byte thumbState.privileged 0x1003#32
      ∧ thumbState.loadsAt (thumbState.reg 2#4 + thumbState.reg 0#4) .byte thumbState.privileged 0x1003#32
      ∧ thumbState.loadsAt (thumbState.reg 1#4 + thumbState.reg 0#4) .half thumbState.privileged 0x1000#32
      ∧ thumbState.oddHalfword (thumbState.reg 1#4 + thumbState.reg 0#4) = false
      ∧ thumbState.oddHalfword (thumbState.reg 2#4 + thumbState.reg 0#4) = true
      ∧ thumbState.storesAt (thumbState.reg 3#4 + BitVec.ofNat 32 (4 * (0#5).toNat)) .word thumbState.privileged 0xFFFFFFFC#32
      ∧ thumbState.storesAt (thumbState.reg 2#4 + thumbState.reg 0#4) .byte thumbState.privileged 0x1003#32
      ∧ thumbState.storesAt (thumbState.reg 1#4 + thumbState.reg 0#4) .half thumbState.privileged 0x1000#32 := by
  unfold State.loadsAt State.storesAt; decide +kernel

/-- PendingIsEnteredFirst, ReturnFromHandler: an exception pending; a legal mode and an aligned PC in both instruction
sets, and both values of IRQ_LR_OFFSET. -/
theorem witness_exceptions :
    (State.powerOn false).waiting = false
      ∧ (State.powerOn false).pending = Pending.empty.set .reset (some .powerOn)
      ∧ armState.modeLegal ∧ armState.pcAligned ∧ thumbState.modeLegal ∧ thumbState.pcAligned
      ∧ ({ thumbState with pc := 0xFFFFFFFE#32 } : State).pcAligned ∧ armState.irqLrOffset = .eight
      ∧ ({ armState with irqLrOffset := .four } : State).irqLrOffset = .four := by
  unfold State.modeLegal State.pcAligned; decide +kernel

/-- InterruptsAreSampled, WaitForInterrupt: lines high with the masks clear and set, and an idle core. -/
theorem witness_interrupts :
    (let s : State := { armState with cpsr := 0x13#32, lines := [⟨true, true⟩] }
     s.waiting = false ∧ s.lines = [⟨true, true⟩] ∧ psrF ({ s with lines := [] } : State).dispatch.cpsr = false
      ∧ psrI ({ s with lines := [] } : State).dispatch.cpsr = false ∧ s.onePending)
    ∧ (let s : State := { armState with lines := [⟨true, true⟩] }
       (true && !psrF ({ s with lines := [] } : State).dispatch.cpsr) = false
        ∧ (true && !psrI ({ s with lines := [] } : State).dispatch.cpsr) = false)
    ∧ (let s : State := { armState with waiting := true, lines := [⟨false, false⟩] }
       s.waiting = true ∧ s.lines = [⟨false, false⟩])
    ∧ (let s : State := { armState with waiting := true, lines := [] }
       s.waiting = true ∧ s.lines = []) := by
  refine ⟨⟨rfl, rfl, by decide +kernel, by decide +kernel, ?_⟩, by decide +kernel, ⟨rfl, rfl⟩, rfl, rfl⟩
  intro k h
  cases h

/-- TranslationStarts: the MMU off; a misaligned access checked; a table entry that faults, and a table that the bus
does not answer. -/
theorem witness_translationStarts :
    armState.control.getLsbD 0 = false
      ∧ (let s := mapped 0xD3#32 0x73#32 1#32 []
         s.control.getLsbD 0 = true ∧ s.control.getLsbD 1 = true ∧ (1#32 : Word).toNat % AccSize.half.bytes ≠ 0
          ∧ tryRead s .word (BitVec.ofNat 32 (s.ttb.toNat / 2 ^ 14 * 2 ^ 14 + (0xFFFFFFFC#32).toNat / 2 ^ 20 * 4)) = true
          ∧ (s.mem.read .word (BitVec.ofNat 32 (s.ttb.toNat / 2 ^ 14 * 2 ^ 14 + (0xFFFFFFFC#32).toNat / 2 ^ 20 * 4))).extractLsb'
            0 2 = 0b00#2
          ∧ tryRead { s with bus := [⟨0, 2 ^ 32 - 1, none, true, true⟩] } .word (BitVec.ofNat 32 (s.ttb.toNat / 2 ^ 14 * 2 ^ 14))
            = false) := by
  decide +kernel

/-- SectionTranslation, PageTranslation: descriptors of each type under each domain control. -/
theorem witness_walks :
    (let s := mapped 0xD3#32 0x71#32 1#32 [(0x4004#32, 0x20000C02#32), (0x4008#32, 0x5001#32), (0x400C#32, 0x6003#32)]
     s.mmuOn = true ∧ (s.alignCheck && !AccSize.word.aligned 0x100000#32) = false
      ∧ tryRead s .word (l1Address s.ttb 0x100000#32) = true
      ∧ (s.mem.read .word (l1Address s.ttb 0x100000#32)).extractLsb' 0 2 = 0b10#2
      ∧ (s.mem.read .word (l1Address s.ttb 0x200000#32)).extractLsb' 0 2 = 0b01#2
      ∧ (s.mem.read .word (l1Address s.ttb 0x300000#32)).extractLsb' 0 2 = 0b11#2
      ∧ s.dacr.extractLsb' (2 * (0#4 : BitVec 4).toNat) 2 = 0b01#2)
    ∧ (0xD#32 : Word).extractLsb' 2 2 = 0b11#2 ∧ (0x9#32 : Word).extractLsb' 2 2 = 0b10#2
    ∧ (0x1#32 : Word).extractLsb' 2 2 = 0b00#2
    ∧ (let s := mapped 0xD3#32 0x71#32 1#32
        [(0x4008#32, 0x5001#32), (0x5004#32, 1#32), (0x5008#32, 2#32), (0x500C#32, 3#32)]
       [0x200000#32, 0x201000#32, 0x202000#32, 0x203000#32].map (fun va =>
          (s.mem.read .word (BitVec.ofNat 32 ((0x5001#32).toNat / 2 ^ 10 * 2 ^ 10 + va.toNat / 2 ^ 12 % 2 ^ 8 * 4))).extractLsb'
            0 2) = [0b00#2, 0b01#2, 0b10#2, 0b11#2]) := by
  decide +kernel

/-- PermissionTable: each pair of S and R. -/
theorem witness_permissionTable :
    [0x70#32, 0x170#32, 0x270#32, 0x370#32].map (fun c : Word => (c.getLsbD 8, c.getLsbD 9))
      = [(false, false), (true, false), (false, true), (true, true)] := by
  decide

/-- FaultIsRecorded: an UNKNOWN and a known domain, a probe that fails, and a fetch that faults. -/
theorem witness_faultIsRecorded :
    (let s := mapped 0xD3#32 0x71#32 1#32 [(0x4008#32, 0x5021#32)]
     condPassed .al s.cpsr = true ∧ s.faultFlag = false ∧ s.pending = Pending.empty ∧ s.waiting = false
      ∧ offset2UsesPc (.imm 0#12) = false ∧ mode2Restricted .offset 3#4 0#4 = false
      ∧ s.translation (s.mode2Address true .offset 3#4 (.imm 0#12)).ea .word s.privileged true = .fault .transSection none
      ∧ s.translation 0x200000#32 .word s.privileged false = .fault .transPage (some 1#4)
      ∧ s.translation s.pc .word s.privileged true = .fault .transSection none
      ∧ (s.currentLines.fiq && !psrF s.cpsr) = false ∧ (s.currentLines.irq && !psrI s.cpsr) = false)
    ∧ (let s : State := { armState with bus := [⟨0, 2 ^ 32 - 1, none, true, true⟩] }
       s.translation (s.mode2Address true .offset 3#4 (.imm 0#12)).ea .word s.privileged true = .ok 0xFFFFFFFC#32
        ∧ tryRead s .word (0xFFFFFFFC#32 &&& 0xFFFFFFFC#32) = false ∧ tryWrite s .word (0xFFFFFFFC#32 &&& 0xFFFFFFFC#32) = false
        ∧ s.translation s.pc .word s.privileged true = .ok 0x8000#32 ∧ tryRead s .word 0x8000#32 = false) := by
  decide +kernel

/-- FaultIsRecorded: an access of each list that aborts; a 32-bit Thumb instruction whose second halfword lies in a
section that faults, and behind a hole. -/
theorem witness_abortsOfEachForm :
    (let s := mapped 0xD3#32 0x71#32 1#32 []
     (Instr.armStrb .al true .offset 3#4 0#4 (.imm 0#12), AccSize.byte, false)
        ∈ mode2Accesses .al true .offset 3#4 0#4 (.imm 0#12)
      ∧ (Instr.armLdrbt .al true 3#4 0#4 (.imm 0#12), AccSize.byte, true) ∈ userAccesses .al true 3#4 0#4 (.imm 0#12)
      ∧ (Instr.armStrh .al true true false 3#4 0#4 (.imm 0#8), AccSize.half, false)
        ∈ mode3Accesses .al true true false 3#4 0#4 (.imm 0#8)
      ∧ (Instr.thumbLdrSp 0#3 0#8, s.reg 13#4 + 0#32, AccSize.word, true) ∈ thumbAccesses s 0#3 0#3 0#3 0#5 0#8
      ∧ mode2Restricted .offset 3#4 0#4 = false ∧ mode2Restricted .postIndexed 3#4 0#4 = false
      ∧ s.oddHalfword (s.mode3Address true true false 3#4 (.imm 0#8)).ea = false
      ∧ (∃ t, s.abortsAt (s.mode2Address true .offset 3#4 (.imm 0#12)).ea .byte s.privileged false t)
      ∧ (∃ t, s.abortsAt (s.mode2Address true .postIndexed 3#4 (.imm 0#12)).ea .byte false true t)
      ∧ (∃ t, s.abortsAt (s.mode3Address true true false 3#4 (.imm 0#8)).ea .half s.privileged false t)
      ∧ ∃ t, s.abortsAt (s.reg 13#4 + 0#32) .word s.privileged true t)
    ∧ (let s : State := { mapped 0xF3#32 0x71#32 1#32 [(0x4000#32, 0xC02#32), (0xFFFFC#32, 0xF0000000#32)] with
          pc := 0xFFFFE#32 }
       psrT s.cpsr = true ∧ s.fetchesAt s.pc .half 0xFFFFE#32
        ∧ isThumb32Prefix ((s.mem.read .half 0xFFFFE#32).setWidth 16) = true
        ∧ s.translation (s.pc + 2#32) .half s.privileged true = .fault .transSection none)
    ∧ (let s : State := { thumb32 0xF000F802#32 thumbState with bus := [⟨0x8002, 0x8003, none, true, false⟩] }
       s.fetchesAt s.pc .half 0x8000#32 ∧ s.translation (s.pc + 2#32) .half s.privileged true = .ok 0x8002#32
        ∧ tryRead s .half 0x8002#32 = false) := by
  refine ⟨⟨by decide, by decide, by decide, by decide +kernel, by decide, by decide, by decide +kernel,
    aborts_fault (by decide +kernel), aborts_fault (by decide +kernel), aborts_fault (by decide +kernel),
    aborts_fault (by decide +kernel)⟩, ?_⟩
  unfold State.fetchesAt
  decide +kernel

/-- ExceptionEntry, BankedRegisters: register numbers at the edges of the banks. -/
theorem witness_banks :
    14#4 ≠ 15#4 ∧ (7#4 : RegNum).toNat < 8 ∧ 8 ≤ (8#4 : RegNum).toNat ∧ (12#4 : RegNum).toNat < 13
      ∧ 13 ≤ (13#4 : RegNum).toNat ∧ (13#4 : RegNum) ≠ 14#4 ∧ ExcKind.fiq ≠ .reset := by
  decide

/-- EveryStepKeepsInvariant, UserModeIsConfined: a state that meets the invariant and steps, in each instruction set and
in User mode. -/
theorem witness_invariant :
    (let s := arm 0xE0910002#32 userState
     s.Inv ∧ psrM s.cpsr = 0b10000#5 ∧ (∃ t, step s = .next t)
      ∧ ∃ t, exec (.armAdd .al true 1#4 0#4 (.immShift 2#4 .lsl 0#5)) s = .next t)
    ∧ (let s := thumb 0x2001#16 thumbState
       s.Inv ∧ ∃ t, step s = .next t) := by
  refine ⟨⟨⟨by decide +kernel, ?_, ?_, ?_, ?_, ?_⟩, by decide +kernel, ?_, ?_⟩,
    ⟨by decide +kernel, ?_, ?_, ?_, ?_, ?_⟩, ?_⟩
  case refine_4 | refine_11 => intro k h; cases h
  case refine_6 | refine_7 | refine_13 => exact (exists_next (p := fun _ => true) (by decide +kernel)).imp fun _ h => h.1
  all_goals
    first
    | unfold State.modeLegal; decide +kernel
    | unfold State.pcAligned; decide +kernel
    | unfold State.controlFixed; decide +kernel
    | unfold State.flagsClear; decide +kernel

end Sys2Proof.Tests
end

section
/-! PROOFS. The invariant of a core between steps (spec/10_state.md R107, R111, R123, R140; spec/60_exceptions.md
R900): every elementary update of Laws/Updates.lean keeps its parts, and so does every phase of a step. -/

namespace Sys2Proof.Machine

variable {A : Prop} {s t : State}

/-! ## The pending exception set (R140) -/

theorem Pending.first_eq_none {p : Pending} : p.first = none ↔ p = Pending.empty := by
  refine ⟨fun h => ?_, fun h => by rw [h]; rfl⟩
  unfold Pending.first at h
  split_ifs at h
  obtain ⟨_, _, _, _, _, _, _⟩ := p
  simp_all [Pending.empty]

theorem Pending.first_set_empty (k : ExcKind) (why : Reason) : (Pending.empty.set k (some why)).first = some k := by
  cases k <;> rfl

theorem Pending.set_none_set_empty (k : ExcKind) (why : Reason) :
    (Pending.empty.set k (some why)).set k none = Pending.empty := by
  cases k <;> rfl

theorem State.onePending_of_empty (h : s.pending = Pending.empty) : s.onePending := by
  intro k hk
  rw [Pending.first_eq_none.2 h] at hk
  cases hk

theorem State.onePending_request (k : ExcKind) (why : Reason) (h : s.pending = Pending.empty) :
    (s.request k why).onePending := by
  intro k' hk
  rw [State.request_pending, h] at hk ⊢
  obtain rfl : k = k' := by simpa [Pending.first_set_empty] using hk
  exact Pending.set_none_set_empty k why

/-! ## What an elementary update keeps -/

theorem sameParameters_refl (s : State) : sameParameters s s := ⟨rfl, rfl, rfl, rfl, rfl⟩

theorem sameParameters.trans {u : State} (h : sameParameters s t) (h' : sameParameters t u) : sameParameters s u := by
  obtain ⟨hm, hc, ho, ha, hb⟩ := h
  obtain ⟨hm', hc', ho', ha', hb'⟩ := h'
  exact ⟨hm'.trans hm, hc'.trans hc, ho'.trans ho, ha'.trans ha, hb'.trans hb⟩

theorem Upd.keepsParameters (h : Upd A s t) : sameParameters s t := by
  cases h <;> simp [sameParameters]

theorem Upd.mem_wf (h : Upd A s t) (hs : s.mem.wf = true) : t.mem.wf = true := by
  cases h with
  | store n pa v => exact Memory.wf_write n pa v hs
  | _ => simpa using hs

theorem controlWritten_fixed (v : Word) : controlWritten v &&& 0xFFFF80F0#32 = 0x00000070#32 := by
  apply BitVec.eq_of_getLsbD_eq
  intro i hi
  simp only [controlWritten, BitVec.getLsbD_and, BitVec.getLsbD_or]
  interval_cases i <;> simp

theorem Upd.controlFixed (h : Upd A s t) (hs : s.controlFixed) : t.controlFixed := by
  cases h with
  | control v _ => exact controlWritten_fixed v
  | _ => simpa [State.controlFixed] using hs

theorem Upd.modeLegal (h : Upd A s t) (hs : s.modeLegal) : t.modeLegal := by
  cases h with
  | flags p hp =>
    have hM : psrM p = psrM s.cpsr := psrM_congr fun j hj => hp j (by omega)
    simpa [State.modeLegal, hM] using hs
  | restore b v _ hm _ => exact hm
  | status p _ hm _ => exact hm
  | _ => simpa [State.modeLegal] using hs

theorem Upd.onePending (h : Upd A s t) (hs : s.onePending) : t.onePending := by
  cases h with
  | request k why hp => exact State.onePending_request k why hp
  | _ => simpa [State.onePending] using hs

/-- Only a PC write changes the instruction set. -/
theorem Upd.psrT_of_not_jumped (h : Upd A s t) (hj : t.jumped = false) :
    s.jumped = false ∧ psrT t.cpsr = psrT s.cpsr := by
  cases h with
  | jump _ _ | exchange _ _ _ | restore _ _ _ _ _ => cases hj
  | flags p hp => exact ⟨hj, hp 5 (by omega)⟩
  | status p ht _ _ => exact ⟨hj, ht⟩
  | _ => simpa using hj

theorem Upd.pcAligned (hA : A) (h : Upd A s t) (hs : s.pcAligned) : t.pcAligned := by
  rw [State.pcAligned_iff] at hs ⊢
  cases h with
  | jump v hv => exact hv hA
  | exchange b v hv => simpa using hv hA
  | restore b v _ _ hv => exact hv
  | flags p hp => rwa [show psrT p = psrT s.cpsr from hp 5 (by omega)]
  | status p ht _ _ => rwa [ht]
  | _ => simpa using hs

/-- The invariant but for the transient flags, which a step may set and clears at its end. -/
structure State.Sound (s : State) : Prop where
  wf : s.mem.wf = true
  mode : s.modeLegal
  pc : s.pcAligned
  control : s.controlFixed
  pending : s.onePending

theorem State.inv_iff (s : State) : s.Inv ↔ s.Sound ∧ s.flagsClear :=
  ⟨fun ⟨hw, hm, hp, hc, ho, hf⟩ => ⟨⟨hw, hm, hp, hc, ho⟩, hf⟩,
    fun ⟨⟨hw, hm, hp, hc, ho⟩, hf⟩ => ⟨hw, hm, hp, hc, ho, hf⟩⟩

theorem Upds.keepsParameters (h : Upds A s t) : sameParameters s t := by
  induction h with
  | refl => exact sameParameters_refl s
  | tail _ h ih => exact ih.trans h.keepsParameters

theorem Upds.sound (hA : A) (h : Upds A s t) (hs : s.Sound) : t.Sound := by
  induction h with
  | refl => exact hs
  | tail _ h ih =>
    exact ⟨h.mem_wf ih.wf, h.modeLegal ih.mode, h.pcAligned hA ih.pc, h.controlFixed ih.control,
      h.onePending ih.pending⟩

theorem Upds.psrT_of_not_jumped (h : Upds A s t) (hj : t.jumped = false) : psrT t.cpsr = psrT s.cpsr := by
  induction h with
  | refl => rfl
  | tail _ h ih =>
    obtain ⟨hj', ht⟩ := h.psrT_of_not_jumped hj
    exact ht.trans (ih hj')

/-! ## What each phase of a step keeps -/

theorem State.Sound.endStep_inv (hs : s.Sound) : s.endStep.Inv :=
  (State.inv_iff _).2 ⟨⟨hs.wf, hs.mode, hs.pc, hs.control, hs.pending⟩, rfl, rfl⟩

theorem psrM_entryCpsr (k : ExcKind) (p : Word) : psrM (entryCpsr k p) = k.bank.mode.bits := by
  unfold entryCpsr
  split <;> simp

theorem psrT_entryCpsr (k : ExcKind) (p : Word) : psrT (entryCpsr k p) = false := by
  unfold entryCpsr
  split <;> simp only [psrT, getLsbD_setBit, getLsbD_withT, Nat.reduceLT, Nat.reduceEqDiff, if_false, if_true]

theorem alignedFor_vector (s : State) (k : ExcKind) : alignedFor false (s.vectorBase + k.vectorOffset) := by
  refine alignedFor_add_false ?_ ?_
  · unfold State.vectorBase
    split <;> (unfold alignedFor; decide)
  · cases k <;> (unfold alignedFor; decide)

/-- Taking an exception leads to the vector, in ARM state and a legal mode (R910 to R912). -/
theorem State.Sound.enterException (hs : s.Sound) (k : ExcKind) : (s.enterException k).Sound where
  wf := hs.wf
  mode := by simp [State.modeLegal, psrM_entryCpsr]
  pc := by simpa [State.pcAligned_iff, psrT_entryCpsr] using alignedFor_vector s k
  control := hs.control
  pending := hs.pending

theorem State.onePending.dispatch_pending (hs : s.onePending) : s.dispatch.pending = Pending.empty := by
  unfold State.dispatch
  split
  · next k hk => exact hs k hk
  · next hk => exact Pending.first_eq_none.1 hk

theorem State.Sound.dispatch (hs : s.Sound) : s.dispatch.Sound := by
  unfold State.dispatch
  split
  · next k hk =>
    have hp : ({ s with pending := s.pending.set k none } : State).Sound :=
      ⟨hs.wf, hs.mode, hs.pc, hs.control, State.onePending_of_empty (hs.pending k hk)⟩
    exact hp.enterException k
  · exact hs

theorem State.dispatch_sameParameters (s : State) : sameParameters s s.dispatch := by simp [sameParameters]

theorem does_sampleLines (l : Lines) : Does A (sampleLines l) := by
  intro s
  unfold DoesAt sampleLines
  split
  · exact does_raise _ _ s
  · split
    · exact does_raise _ _ s
    · exact does_pure () s

theorem does_fetchRead (va : Word) (n : AccSize) : Does A (fetchRead va n) :=
  (does_look _).bind fun _ => (does_translateVa _ _ _ _ _).bind fun _ => (does_probe _ _ _).bind fun _ => does_look _

theorem does_fetch : Does A fetch := by
  refine (does_look _).bind fun _ => (does_look _).bind fun _ => does_ite ?_ ?_
  · exact (does_fetchRead _ _).bind fun _ => does_ite ((does_fetchRead _ _).bind fun _ => does_pure _) (does_pure _)
  · exact (does_fetchRead _ _).bind fun _ => does_pure _

/-! ## What an answered fetch says (R300, R301) -/

/-- A bind that answers is its first part's answer run through the second. -/
theorem act_bind_eq_ok {α β : Type} {m : Act α} {f : α → Act β} {s u : State} {b : β}
    (h : (m >>= f) s = .ok (b, u)) : ∃ a t, m s = .ok (a, t) ∧ f a t = .ok (b, u) := by
  rw [act_bind] at h
  split at h
  · next a t e => exact ⟨a, t, e, h⟩
  · cases h

theorem sampleLines_inv {l : Lines} {u : Unit} (h : sampleLines l s = .ok (u, t)) : t = s := by
  unfold sampleLines at h
  split at h
  · rw [raise_apply] at h; split at h <;> cases h
  · split at h
    · rw [raise_apply] at h; split at h <;> cases h
    · cases h; rfl

theorem probe_inv {ok : State → Bool} {k : ExcKind} {why : Reason} {u : Unit} (h : probe ok k why s = .ok (u, t)) :
    t = s := by
  unfold probe at h
  split at h
  · cases h; rfl
  · rw [raise_apply] at h; split at h <;> cases h

theorem fetchRead_inv {va v : Word} {n : AccSize} (h : fetchRead va n s = .ok (v, t)) : t = s := by
  obtain ⟨_, _, hl, h⟩ := act_bind_eq_ok h
  cases hl
  obtain ⟨_, _, hv, h⟩ := act_bind_eq_ok h
  cases (translateVa_inv hv).1
  obtain ⟨⟨⟩, _, hp, h⟩ := act_bind_eq_ok h
  cases probe_inv hp
  cases h
  rfl

/-- A fetch changes nothing, and answers code of the current instruction set. -/
theorem fetch_inv {c : Code} (h : fetch s = .ok (c, t)) : t = s ∧ c.isThumb = psrT s.cpsr := by
  obtain ⟨_, _, hl, h⟩ := act_bind_eq_ok h
  cases hl
  obtain ⟨_, _, hl, h⟩ := act_bind_eq_ok h
  cases hl
  split at h
  · next ht =>
    obtain ⟨_, _, hr, h⟩ := act_bind_eq_ok h
    cases fetchRead_inv hr
    dsimp only at h
    split at h
    · obtain ⟨_, _, hr, h⟩ := act_bind_eq_ok h
      cases fetchRead_inv hr
      cases h
      exact ⟨rfl, ht.symm⟩
    · cases h
      exact ⟨rfl, ht.symm⟩
  · next ht =>
    obtain ⟨_, _, hr, h⟩ := act_bind_eq_ok h
    cases fetchRead_inv hr
    cases h
    exact ⟨rfl, by simpa [Code.isThumb] using ht⟩

theorem alignedFor_len (c : Code) : alignedFor c.isThumb c.len := by
  cases c <;> simp [alignedFor, Code.isThumb, Code.len]

end Sys2Proof.Machine
end

section
/-! PROOFS. The invariant holds at reset and every step keeps it (O58, O59). -/

namespace Sys2Proof.Machine

/-! ## ARM words decode to ARM instructions (R301, R320 to R322) -/

/-- The instruction is encoded as an ARM word. -/
def armCoded (i : Instr) : Prop := (encode i).isThumb = false

theorem armCoded_ite {b : Prop} [Decidable b] {i j : Instr} (hi : armCoded i) (hj : armCoded j) :
    armCoded (if b then i else j) := by
  split <;> assumption

theorem armCoded_decodeDp (c : Cond) (w : Word) (op2 : Operand2) : armCoded (decodeDp c w op2) := by
  unfold decodeDp
  split <;> rfl

theorem armCoded_decodeMulSwap (c : Cond) (w : Word) : armCoded (decodeMulSwap c w) := by
  unfold decodeMulSwap
  split
  case h_7 | h_8 => exact armCoded_ite rfl rfl
  all_goals rfl

theorem armCoded_decodeExtra (c : Cond) (w : Word) : armCoded (decodeExtra c w) := by
  unfold decodeExtra
  split <;> exact armCoded_ite rfl rfl

theorem armCoded_decodeMisc (c : Cond) (w : Word) : armCoded (decodeMisc c w) := by
  refine armCoded_ite ?_ ?_
  · split
    case h_2 => exact armCoded_ite rfl rfl
    all_goals rfl
  · split
    case h_2 | h_4 => split <;> rfl
    case h_6 => rfl
    all_goals exact armCoded_ite rfl rfl

theorem armCoded_decodeSingle (c : Cond) (w : Word) : armCoded (decodeSingle c w) :=
  armCoded_ite (armCoded_ite (armCoded_ite rfl rfl) (armCoded_ite rfl rfl))
    (armCoded_ite (armCoded_ite rfl rfl) (armCoded_ite rfl rfl))

theorem armCoded_decodeBlock (c : Cond) (w : Word) : armCoded (decodeBlock c w) :=
  armCoded_ite (armCoded_ite (armCoded_ite rfl rfl) rfl) (armCoded_ite rfl rfl)

theorem armCoded_decodeCopLs (c : Cond) (w : Word) : armCoded (decodeCopLs c w) :=
  armCoded_ite (armCoded_ite (armCoded_ite rfl rfl) rfl) (armCoded_ite rfl rfl)

theorem armCoded_decodeCopSwi (c : Cond) (w : Word) : armCoded (decodeCopSwi c w) :=
  armCoded_ite rfl (armCoded_ite (armCoded_ite rfl rfl) rfl)

theorem armCoded_decodeCond (c : Cond) (w : Word) : armCoded (decodeCond c w) := by
  unfold decodeCond
  split
  · exact armCoded_ite (armCoded_ite (armCoded_decodeMulSwap c w) (armCoded_decodeExtra c w))
      (armCoded_ite (armCoded_decodeMisc c w) (armCoded_ite (armCoded_decodeDp c w _) (armCoded_decodeDp c w _)))
  · exact armCoded_ite (armCoded_ite rfl rfl) (armCoded_decodeDp c w _)
  · exact armCoded_decodeSingle c w
  · exact armCoded_ite rfl (armCoded_decodeSingle c w)
  · exact armCoded_decodeBlock c w
  · exact armCoded_ite rfl rfl
  · exact armCoded_decodeCopLs c w
  · exact armCoded_decodeCopSwi c w

theorem armCoded_decodeUncond (w : Word) : armCoded (decodeUncond w) := by
  unfold decodeUncond
  split
  · rfl
  · exact armCoded_ite rfl rfl
  · exact armCoded_ite rfl rfl
  · exact armCoded_ite rfl (armCoded_ite rfl rfl)
  · exact armCoded_ite rfl (armCoded_ite (armCoded_ite rfl rfl) rfl)
  · rfl

theorem armCoded_decodeArm (w : Word) : armCoded (decodeArm w) :=
  armCoded_ite (armCoded_decodeUncond w) (armCoded_decodeCond _ w)

/-- An instruction decoded from code of the current instruction set, at an aligned PC, is at home. -/
theorem atHome_of_decode {s : State} {c : Code} {i : Instr} (hs : s.pcAligned) (hc : c.isThumb = psrT s.cpsr)
    (h : decode c = .ok i) : atHome i s := by
  refine ⟨hs, fun hi => ?_⟩
  cases c with
  | arm w =>
    cases h
    rw [armCoded_decodeArm w] at hi
    cases hi
  | thumb _ | thumb32 _ => exact hc.symm

/-! ## The end of a step -/

theorem alignedFor_add {b : Bool} {v w : Word} (hv : alignedFor b v) (hw : alignedFor b w) : alignedFor b (v + w) := by
  cases b
  · exact alignedFor_add_false hv hw
  · exact alignedFor_add_true hv hw

/-- The PC's advance keeps its alignment: only a PC write changes the instruction set, and it is not advanced over. -/
theorem State.Sound.advance {s : State} (hs : s.Sound) {len : Word}
    (hl : s.jumped = false → alignedFor (psrT s.cpsr) len) : (s.advance len).Sound := by
  unfold State.advance
  split
  · exact hs
  · next hj => exact ⟨hs.wf, hs.mode, alignedFor_add hs.pc (hl (by simpa using hj)), hs.control, hs.pending⟩

/-- What follows the execution of a decoded instruction ends in a state that meets the invariant (R110, R900). -/
theorem afterExec_inv {s t : State} {c : Code} {i : Instr} (hs : s.Sound) (hc : c.isThumb = psrT s.cpsr)
    (hd : decode c = .ok i) (h : afterExec c.len s (exec i s) = .next t) : t.Inv ∧ sameParameters s t := by
  unfold afterExec at h
  split at h
  · next u hu =>
    have hus := exec_upds hu
    have hu : u.Sound := hus.sound (atHome_of_decode hs.pc hc hd) hs
    have hp := hus.keepsParameters
    split at h <;> cases h
    · have ha : (u.advance c.len).Sound := hu.advance fun hj => by
        rw [hus.psrT_of_not_jumped hj, ← hc]
        exact alignedFor_len c
      exact ⟨ha.endStep_inv, by simpa [sameParameters] using hp⟩
    · exact ⟨hu.endStep_inv, hp⟩
  · cases h
  · cases h

/-- An active step ends where sampling or fetch raised, or after the decoded instruction: each keeps the invariant. -/
theorem activeStep_inv {s t : State} {l : Lines} (hs : s.Sound) (h : activeStep l s = .next t) :
    t.Inv ∧ sameParameters s t := by
  have hd := hs.dispatch
  have hp := s.dispatch_sameParameters
  unfold activeStep at h
  split at h
  · next u hu =>
    cases h
    have hdoes : Does True (do sampleLines l; fetch : Act Code) := (does_sampleLines l).bind fun _ => does_fetch
    have hus : Upds True s.dispatch u := (hdoes s.dispatch).2 u hu
    exact ⟨(hus.sound trivial hd).endStep_inv, hp.trans hus.keepsParameters⟩
  · cases h
  · cases h
  · next c u hu =>
    obtain ⟨_, _, hl, hf⟩ := act_bind_eq_ok hu
    cases sampleLines_inv hl
    obtain ⟨rfl, hc⟩ := fetch_inv hf
    split at h
    · next i hi =>
      obtain ⟨ht, hq⟩ := afterExec_inv hd hc hi h
      exact ⟨ht, hp.trans hq⟩
    · cases h

/-- Settles O59: the invariant holds after every elementary update, so after every phase of a step. -/
theorem everyStepKeepsInvariant : Obligations.EveryStepKeepsInvariant := by
  unfold Obligations.EveryStepKeepsInvariant
  intro s t hs h
  obtain ⟨hsound, hflags⟩ := s.inv_iff.1 hs
  unfold step at h
  split at h
  · cases h
    exact ⟨s.sampled.inv_iff.2 ⟨⟨hsound.wf, hsound.mode, hsound.pc, hsound.control, hsound.pending⟩, hflags⟩,
      sameParameters_refl s⟩
  · exact activeStep_inv (s := { s.sampled with waiting := false })
      ⟨hsound.wf, hsound.mode, hsound.pc, hsound.control, hsound.pending⟩ h

/-- Settles O58. -/
theorem invariantAtReset : Obligations.InvariantAtReset := by
  have h : ∀ hivecs, (State.powerOn hivecs).Inv := by
    intro hivecs
    refine ((State.powerOn hivecs).inv_iff).2 ⟨⟨rfl, ?_, ?_, ?_, ?_⟩, rfl, rfl⟩
    · exact (by decide : (Mode.ofBits (psrM 0x000000D3#32)).isSome = true)
    · cases hivecs <;> exact alignedFor_of_bits (by decide) (by decide)
    · cases hivecs <;> (unfold State.controlFixed; decide)
    · exact State.onePending_request (s := { State.powerOn hivecs with pending := Pending.empty }) .reset .powerOn rfl
  exact ⟨h _, h⟩

end Sys2Proof.Machine
end

section
/-! PROOFS. Conditions and flags (O6, O7). -/

namespace Sys2Proof.Machine

/-! ## Conditional instructions (R114) -/

/-- Every conditional instruction but BKPT tests its condition first, whatever its body. -/
theorem exec_eq_whenPassed {i : Instr} {c : Cond} (h : i.condOf = some c) (hb : ∀ x y, i ≠ .armBkpt c x y) :
    ∃ body : Act Unit, ∀ s, exec i s = runAct (whenPassed c body) s := by
  cases i with
  | armBkpt c' x y => cases h; exact absurd rfl (hb x y)
  | _ => cases h <;> exact ⟨_, fun _ => rfl⟩

/-- An UNDEFINED word outside the cond = 1111 space is conditional (R657). -/
theorem exec_armUndefined {w : Word} (h : w.extractLsb' 28 4 ≠ 0xF#4) (s : State) :
    exec (.armUndefined w) s
      = runAct (whenPassed (.ofBits (w.extractLsb' 28 4)) (raise .undefinedInstruction .undefinedWord)) s := by
  show runAct (if _ then _ else _) s = _
  rw [if_neg h]

theorem runAct_whenPassed_failed {c : Cond} {s : State} (h : condPassed c s.cpsr = false) (m : Act Unit) :
    runAct (whenPassed c m) s = .next s := runAct_ok (whenPassed_failed h m)

theorem afterExec_unchanged (len : Word) (s : State) : afterExec len s (.next s) = .next (s.advance len).endStep := by
  simp [afterExec]

/-- Settles O6. -/
theorem conditionRule : Obligations.ConditionRule := by
  unfold Obligations.ConditionRule
  refine ⟨fun p => ⟨rfl, rfl, rfl, rfl, rfl, rfl, rfl, rfl, rfl, rfl, rfl, rfl, rfl, rfl, rfl, rfl⟩, ?_⟩
  intro i c s len hc hi
  have hnext : exec i s = .next s := by
    rcases hi with ⟨hcond, hbkpt⟩ | ⟨w, rfl, hw, rfl⟩
    · obtain ⟨body, hbody⟩ := exec_eq_whenPassed hcond hbkpt
      rw [hbody, runAct_whenPassed_failed hc]
    · rw [exec_armUndefined hw, runAct_whenPassed_failed hc]
  exact ⟨hnext, by rw [hnext, afterExec_unchanged]⟩

/-! ## Flag writes (R113, R406) -/

/-- Settles O7: each flag write replaces its bits one by one; where the tests of j agree the sides are one term. -/
theorem flagWrites : Obligations.FlagWrites := by
  unfold Obligations.FlagWrites
  intro p o r d sc j _
  refine ⟨?_, ?_, ?_, ?_⟩
  · rw [arithFlags, getLsbD_withNZCV]
    split_ifs <;> first | omega | rfl
  · rw [logicFlags, getLsbD_withNZC]
    split_ifs <;> first | omega | rfl
  · rw [nzFlags, getLsbD_withNZ]
    split_ifs <;> first | omega | rfl
  · rw [nzFlags64, getLsbD_withNZ]
    split_ifs <;> first | omega | rfl

end Sys2Proof.Machine
end

section
/-! PROOFS. Data processing into the PC (O13). -/

namespace Sys2Proof.Machine

theorem regShiftUsesPc_rd_pc {rn rn' : RegNum} {op2 : Operand2} (h : regShiftUsesPc rn 15#4 op2 = false) :
    regShiftUsesPc rn' 15#4 op2 = false := by
  cases op2 with
  | immShift _ _ _ | imm _ _ => rfl
  | regShift _ _ _ => simp [regShiftUsesPc] at h

/-- MOV and MVN do not read their first operand (R423, R425). -/
theorem dpOut_move {op : DpOp} (h : op = .mov ∨ op = .mvn) (s : State) (rn rn' : RegNum) (op2 : Operand2) :
    s.dpOut op rn op2 = s.dpOut op rn' op2 := by
  rcases h with rfl | rfl <;> rfl

/-- Every data-processing form with a destination is one dataProcessing behind its condition. -/
theorem exec_dpForms {c : Cond} {sf : Bool} {rn rd : RegNum} {op2 : Operand2} {f : Instr × DpOp}
    (h : f ∈ dpForms c sf rn rd op2) (s : State) :
    exec f.1 s = runAct (whenPassed c (dataProcessing f.2 sf rn rd op2)) s := by
  simp only [dpForms, List.mem_cons, List.not_mem_nil, or_false] at h
  rcases h with rfl | rfl | rfl | rfl | rfl | rfl | rfl | rfl | rfl | rfl <;> rfl

theorem exec_moveForms {c : Cond} {sf : Bool} {rd : RegNum} {op2 : Operand2} {f : Instr × DpOp}
    (h : f ∈ moveForms c sf rd op2) (s : State) :
    (f.2 = .mov ∨ f.2 = .mvn) ∧ exec f.1 s = runAct (whenPassed c (dataProcessing f.2 sf 0#4 rd op2)) s := by
  simp only [moveForms, List.mem_cons, List.not_mem_nil, or_false] at h
  rcases h with rfl | rfl
  · exact ⟨.inl rfl, rfl⟩
  · exact ⟨.inr rfl, rfl⟩

/-- Data processing into the PC: a PC write, or with S = 1 a return from an exception. -/
theorem dataProcessing_pc (op : DpOp) (sf : Bool) {rn : RegNum} {op2 : Operand2}
    (hr : regShiftUsesPc rn 15#4 op2 = false) (s : State) :
    dataProcessing op sf rn 15#4 op2 s
      = if sf then returnFromException (s.dpOut op rn op2).result s else aluWritePC (s.dpOut op rn op2).result s := by
  unfold dataProcessing
  rw [hr, act_bind_ok (unpredictableIf_false _ s), act_bind_ok (look_apply _ s), if_pos rfl]
  cases sf <;> rfl

/-- A form of either list with Rd = 15, its condition passed. -/
theorem exec_dpToPc {s : State} {c : Cond} {sf : Bool} {rn : RegNum} {op2 : Operand2} {f : Instr × DpOp}
    (hc : condPassed c s.cpsr = true) (hr : regShiftUsesPc rn 15#4 op2 = false)
    (hf : f ∈ dpForms c sf rn 15#4 op2 ++ moveForms c sf 15#4 op2) :
    exec f.1 s
      = outcomeOf (if sf then returnFromException (s.dpOut f.2 rn op2).result s
          else aluWritePC (s.dpOut f.2 rn op2).result s) := by
  rcases List.mem_append.1 hf with hf | hf
  · rw [exec_dpForms hf, runAct_outcomeOf, whenPassed_passed hc, dataProcessing_pc _ _ hr]
  · obtain ⟨hop, hexec⟩ := exec_moveForms hf s
    rw [hexec, runAct_outcomeOf, whenPassed_passed hc, dataProcessing_pc _ _ (regShiftUsesPc_rd_pc hr),
      dpOut_move hop s 0#4 rn]

/-- Settles O13. -/
theorem dataProcessingToPc : Obligations.DataProcessingToPc := by
  unfold Obligations.DataProcessingToPc
  intro s c rn op2 f hc hr
  refine ⟨fun hf => ?_, fun hf => ?_⟩
  · rw [exec_dpToPc hc hr hf]
    exact outcomeOf_aluWritePC _ s
  · rw [exec_dpToPc hc hr hf]
    exact outcomeOf_returnFromException _ s

end Sys2Proof.Machine
end

section
/-! PROOFS. Status registers (O31, O32). -/

namespace Sys2Proof.Machine

section
variable {s : State} {c : Cond}

/-! ## Should-be fields -/

/-- A should-be field is tested once the condition has passed: as required it is passed over, else it stops (R306). -/
theorem runAct_shouldBe (hc : condPassed c s.cpsr = true) (b : Bool) (m : Act Unit) :
    runAct (whenPassed c (do shouldBe b; m)) s
      = if b then outcomeOf (m s) else .refused (.unpredictable .shouldBeField) := by
  rw [runAct_outcomeOf, whenPassed_passed hc]
  cases b
  · rw [act_bind_error (shouldBe_false s)]
    rfl
  · rw [act_bind_ok (shouldBe_true s), if_pos rfl]

/-! ## MRS (R650) -/

/-- What MRS does once its tests have passed. -/
def mrsRead (r : Bool) (rd : RegNum) : Act Unit :=
  if r then do
    let b ← currentBank
    let v ← look fun s => s.spsr.get b
    writeReg rd v
  else do
    let v ← look fun s => s.cpsr
    writeReg rd v

theorem exec_armMrs (r : Bool) (sb19 sb11 sb3 : BitVec 4) (rd : RegNum) (s : State) :
    exec (.armMrs c r sb19 rd sb11 sb3) s
      = runAct (whenPassed c (do
          shouldBe (sb19 == 0xF#4 && sb11 == 0#4 && sb3 == 0#4)
          unpredictableIf (rd == 15#4) .mrsToPc
          mrsRead r rd)) s := rfl

theorem mrsRead_cpsr (rd : RegNum) : mrsRead false rd s = .ok ((), s.setReg rd s.cpsr) := rfl

theorem mrsRead_spsr {b : Bank} (hb : s.mode.bank = some b) (rd : RegNum) :
    mrsRead true rd s = .ok ((), s.setReg rd (s.spsr.get b)) := by
  unfold mrsRead
  rw [if_pos rfl, act_bind_ok (currentBank_some hb)]
  rfl

theorem mrsRead_user (hb : s.mode.bank = none) (rd : RegNum) : mrsRead true rd s = .error (.fault .spsrAccess) := by
  unfold mrsRead
  rw [if_pos rfl, act_bind_error (currentBank_none hb)]

theorem exec_armMrs_passed (hc : condPassed c s.cpsr = true) (r : Bool) {rd : RegNum} (hrd : rd ≠ 15#4) :
    exec (.armMrs c r 0xF#4 rd 0#4 0#4) s = outcomeOf (mrsRead r rd s) := by
  rw [exec_armMrs, runAct_shouldBe hc, if_pos (by rfl), beq_false_of_ne hrd, act_bind_ok (unpredictableIf_false _ s)]

end

/-- Settles O31. -/
theorem statusRead : Obligations.StatusRead := by
  unfold Obligations.StatusRead
  intro s c rd hc
  refine ⟨fun hrd => ⟨?_, fun b hb => ?_, fun hb => ?_⟩, fun r => ?_, fun r x y z hsb => ?_⟩
  · rw [exec_armMrs_passed hc _ hrd, mrsRead_cpsr, outcomeOf_ok]
  · rw [exec_armMrs_passed hc _ hrd, mrsRead_spsr hb, outcomeOf_ok]
  · rw [exec_armMrs_passed hc _ hrd, mrsRead_user hb, outcomeOf_fault]
  · rw [exec_armMrs, runAct_shouldBe hc, if_pos (by rfl)]
    rfl
  · refine ⟨.shouldBeField, ?_⟩
    rw [exec_armMrs, runAct_shouldBe hc, if_neg]
    rcases hsb with h | h | h <;> simp [h]

/-! ## MSR (R651 to R653) -/

section
variable {s : State} {c : Cond}

theorem exec_armMsrReg (r : Bool) (mask : BitVec 4) (sb : BitVec 8) (rm : RegNum) (s : State) :
    exec (.armMsrReg c r mask sb rm) s
      = runAct (whenPassed c (do
          shouldBe (sb == 0xF0#8)
          unpredictableIf (rm == 15#4) .msrFromPc
          let v ← readReg rm
          msrWrite r mask v)) s := rfl

theorem exec_armMsrImm (r : Bool) (mask sb rot : BitVec 4) (imm8 : BitVec 8) (s : State) :
    exec (.armMsrImm c r mask sb rot imm8) s
      = runAct (whenPassed c (do shouldBe (sb == 0xF#4); msrWrite r mask (rotatedImm rot imm8))) s := rfl

/-- Both forms, their tests passed, are one MSRWrite of the operand (R651). -/
theorem exec_msr {rm : RegNum} {rot mask : BitVec 4} {imm8 : BitVec 8} {i : Instr} {v : Word} {r : Bool}
    (hc : condPassed c s.cpsr = true)
    (h : (i = .armMsrReg c r mask 0xF0#8 rm ∧ rm ≠ 15#4 ∧ v = s.reg rm)
      ∨ (i = .armMsrImm c r mask 0xF#4 rot imm8 ∧ v = (imm8.setWidth 32 : Word).rotateRight (2 * rot.toNat))) :
    exec i s = outcomeOf (msrWrite r mask v s) := by
  rcases h with ⟨rfl, hrm, rfl⟩ | ⟨rfl, rfl⟩
  · rw [exec_armMsrReg, runAct_shouldBe hc, if_pos (by rfl), beq_false_of_ne hrm,
      act_bind_ok (unpredictableIf_false _ s), act_bind_ok (readReg_apply rm s)]
  · rw [exec_armMsrImm, runAct_shouldBe hc, if_pos (by rfl)]
    rfl

/-- The bits of the lanes of a field mask (R651). -/
theorem getLsbD_byteMask (mask : BitVec 4) {j : Nat} (hj : j < 32) :
    (byteMask mask).getLsbD j = mask.getLsbD (j / 8) := by
  revert mask
  revert j
  decide

theorem getLsbD_cpsrMask (s : State) (mask : BitVec 4) {j : Nat} (hj : j < 32) :
    (s.cpsrMask mask).getLsbD j = true ↔ laneWritten mask j ∧ (s.privileged = true ∨ 24 ≤ j) := by
  have htop : (0xFF000000#32).getLsbD j = true ↔ 24 ≤ j := by
    revert j
    decide
  unfold State.cpsrMask laneWritten
  split
  · next hp => simp [getLsbD_byteMask mask hj, hp]
  · next hp => simp [getLsbD_byteMask mask hj, htop, hp]

/-- A word whose masked bits are the new ones and whose other bits are the old ones is the merge of the two. -/
theorem mergeBytes_unique {old new mask w : Word}
    (h : ∀ j, j < 32 → (mask.getLsbD j = true → w.getLsbD j = new.getLsbD j)
      ∧ (¬mask.getLsbD j = true → w.getLsbD j = old.getLsbD j)) : mergeBytes old new mask = w := by
  apply BitVec.eq_of_getLsbD_eq
  intro j hj
  obtain ⟨hin, hout⟩ := h j hj
  rw [getLsbD_mergeBytes]
  split
  · next hm => exact (hin hm).symm
  · next hm => exact (hout hm).symm

/-- MSRWrite to the CPSR: T must not change, and the mode must be legal (R111, R651). -/
theorem outcomeOf_msrWrite_cpsr (mask : BitVec 4) (v : Word) :
    outcomeOf (msrWrite false mask v s)
      = (let new := mergeBytes s.cpsr v (s.cpsrMask mask)
         if psrT new ≠ psrT s.cpsr then .refused (.unpredictable .msrChangesT)
         else if (Mode.ofBits (psrM new)).isSome then .next { s with cpsr := new }
         else .refused (.unsupported .malformedMode)) := by
  dsimp only
  generalize hn : mergeBytes s.cpsr v (s.cpsrMask mask) = new
  have hw : msrWrite false mask v s
      = (do unpredictableIf (psrT new != psrT s.cpsr) .msrChangesT; writeCpsr new : Act Unit) s := by
    rw [← hn]
    rfl
  by_cases ht : psrT new = psrT s.cpsr
  · rw [hw, ht, bne_self_eq_false, act_bind_ok (unpredictableIf_false _ s), writeCpsr_apply,
      if_neg (not_not_intro rfl)]
    split <;> rfl
  · rw [hw, bne_iff_ne.2 ht, act_bind_error (unpredictableIf_true _ s), if_pos ht]
    rfl

/-- MSRWrite to the SPSR of a mode that has one (R651). -/
theorem msrWrite_spsr {b : Bank} (hb : s.mode.bank = some b) (mask : BitVec 4) (v : Word) :
    msrWrite true mask v s
      = .ok ((), { s with spsr := s.spsr.set b (mergeBytes (s.spsr.get b) v (byteMask mask)) }) := by
  unfold msrWrite
  rw [if_pos rfl, act_bind_ok (currentBank_some hb)]
  rfl

theorem msrWrite_user (hb : s.mode.bank = none) (mask : BitVec 4) (v : Word) :
    msrWrite true mask v s = .error (.fault .spsrAccess) := by
  unfold msrWrite
  rw [if_pos rfl, act_bind_error (currentBank_none hb)]

end

/-- Settles O32. -/
theorem statusWrite : Obligations.StatusWrite := by
  unfold Obligations.StatusWrite
  intro s c mask rot imm8 rm i v r hc
  refine ⟨?_, fun sb hsb => ?_, fun sb hsb => ?_, fun hi => ⟨?_, ?_⟩⟩
  · rintro rfl
    refine ⟨.msrFromPc, ?_⟩
    rw [exec_armMsrReg, runAct_shouldBe hc, if_pos (by rfl)]
    rfl
  · exact ⟨.shouldBeField, by rw [exec_armMsrReg, runAct_shouldBe hc, if_neg (by simpa using hsb)]⟩
  · exact ⟨.shouldBeField, by rw [exec_armMsrImm, runAct_shouldBe hc, if_neg (by simpa using hsb)]⟩
  · rintro rfl new hnew
    have hmerge : mergeBytes s.cpsr v (s.cpsrMask mask) = new := mergeBytes_unique fun j hj => by
      rw [getLsbD_cpsrMask s mask hj]
      exact hnew j hj
    rw [exec_msr hc hi, outcomeOf_msrWrite_cpsr, hmerge]
    exact ⟨fun ht hm => by simp [ht, hm], fun ht => by simp [ht], fun ht hm => by simp [ht, hm]⟩
  · rintro rfl
    rw [exec_msr hc hi]
    refine ⟨fun hb => by rw [msrWrite_user hb, outcomeOf_fault], fun b new hb hnew => ?_⟩
    have hmerge : mergeBytes (s.spsr.get b) v (byteMask mask) = new := mergeBytes_unique fun j hj => by
      rw [getLsbD_byteMask mask hj]
      exact hnew j hj
    rw [msrWrite_spsr hb, hmerge, outcomeOf_ok]

end Sys2Proof.Machine
end

section
/-! PROOFS. The CP15 registers and operations (O35, O36). -/

namespace Sys2Proof.Machine

/-! ## Composite ids (R120, R701) -/

theorem getLsbD_cp15Id (crn : BitVec 4) (op1 : BitVec 3) (crm : BitVec 4) (op2 : BitVec 3) (j : Nat) :
    (cp15Id crn op1 crm op2).getLsbD j
      = if j < 4 then op2.getLsbD j else if j < 8 then crm.getLsbD (j - 4)
        else if j < 12 then op1.getLsbD (j - 8) else if j < 16 then crn.getLsbD (j - 12) else false := by
  by_cases hj : j < 16
  · interval_cases j <;> simp [cp15Id]
  · rw [BitVec.getLsbD_of_ge _ _ (by omega)]
    split_ifs <;> first | omega | rfl

/-- The fields of a composite id read back. -/
theorem cp15Id_fields (crn : BitVec 4) (op1 : BitVec 3) (crm : BitVec 4) (op2 : BitVec 3) :
    (cp15Id crn op1 crm op2).extractLsb' 12 4 = crn ∧ (cp15Id crn op1 crm op2).extractLsb' 8 3 = op1
      ∧ (cp15Id crn op1 crm op2).extractLsb' 4 4 = crm ∧ (cp15Id crn op1 crm op2).extractLsb' 0 3 = op2 := by
  refine ⟨?_, ?_, ?_, ?_⟩ <;> apply BitVec.eq_of_getLsbD_eq <;> intro i hi <;>
    rw [BitVec.getLsbD_extractLsb', getLsbD_cp15Id] <;> interval_cases i <;> rfl

/-- An id that names something is one of the map's, with opcode1 = 0 (R120 to R131). -/
theorem cp15Reg_inv {id : BitVec 16} {r : Cp15Reg} (h : cp15Reg id = some r) :
    id.extractLsb' 8 3 = 0#3 ∧ (id.extractLsb' 12 4, id.extractLsb' 4 4, id.extractLsb' 0 3) ∈ cp15Ids := by
  unfold cp15Reg at h
  split at h
  case h_33 => cases h
  all_goals decide

theorem cp15Reg_invalid {crn crm : BitVec 4} {op1 op2 : BitVec 3} (h : op1 ≠ 0#3 ∨ (crn, crm, op2) ∉ cp15Ids) :
    cp15Reg (cp15Id crn op1 crm op2) = none := by
  obtain ⟨hcrn, hop1, hcrm, hop2⟩ := cp15Id_fields crn op1 crm op2
  rcases hr : cp15Reg (cp15Id crn op1 crm op2) with _ | r
  · rfl
  · obtain ⟨h0, hmem⟩ := cp15Reg_inv hr
    rw [hop1] at h0
    rw [hcrn, hcrm, hop2] at hmem
    exact absurd hmem (h.resolve_left (not_not_intro h0))

/-- The operations that do nothing are the write-only ones of c7 and c8 (R129, R130). -/
theorem cp15Reg_maintenance {x : BitVec 4 × BitVec 4 × BitVec 3} (hx : x ∈ cp15Maintenance) :
    cp15Reg (cp15Id x.1 0#3 x.2.1 x.2.2) = some .cacheOperation
      ∨ cp15Reg (cp15Id x.1 0#3 x.2.1 x.2.2) = some .tlbOperation := by
  have hmap : cp15Maintenance.map (fun x => cp15Reg (cp15Id x.1 0#3 x.2.1 x.2.2))
      = List.replicate 15 (some .cacheOperation) ++ List.replicate 6 (some .tlbOperation) := rfl
  have hmem := List.mem_map_of_mem (f := fun x => cp15Reg (cp15Id x.1 0#3 x.2.1 x.2.2)) hx
  rw [hmap, List.mem_append, List.mem_replicate, List.mem_replicate] at hmem
  exact hmem.imp And.right And.right

theorem cp15Write_invalid {id : BitVec 16} (h : cp15Reg id = none) (v : Word) (s : State) :
    cp15Write id v s = .error (.refused (.unsupported .invalidCp15Id)) := by
  unfold cp15Write
  rw [h]
  rfl

theorem cp15Write_maintenance {id : BitVec 16}
    (h : cp15Reg id = some .cacheOperation ∨ cp15Reg id = some .tlbOperation)
    (v : Word) (s : State) : cp15Write id v s = .ok ((), s) := by
  unfold cp15Write
  rcases h with h | h <;> rw [h] <;> rfl

theorem cp15Read_invalid {id : BitVec 16} (h : cp15Reg id = none) (s : State) :
    cp15Read id s = .error (.refused (.unsupported .invalidCp15Id)) := by
  unfold cp15Read
  rw [h]
  rfl

theorem cp15Read_maintenance {id : BitVec 16}
    (h : cp15Reg id = some .cacheOperation ∨ cp15Reg id = some .tlbOperation)
    (s : State) : cp15Read id s = .error (.refused (.unsupported .invalidCp15Access)) := by
  unfold cp15Read
  rcases h with h | h <;> rw [h] <;> rfl

/-- The ids that MRC reads, each with what it reads (R121 to R131, R703). -/
def cp15Readable (s : State) : List ((BitVec 4 × BitVec 4 × BitVec 3) × Word) :=
  [((0#4, 0#4, 0#3), s.midr), ((0#4, 0#4, 1#3), s.ctr), ((1#4, 0#4, 0#3), s.control), ((2#4, 0#4, 0#3), s.ttb),
    ((3#4, 0#4, 0#3), s.dacr), ((5#4, 0#4, 0#3), s.fsr), ((6#4, 0#4, 0#3), s.far),
    ((7#4, 10#4, 3#3), 0x40000000#32), ((7#4, 14#4, 3#3), 0x40000000#32), ((13#4, 0#4, 0#3), 0#32)]

theorem cp15Read_readable (s : State) :
    ∀ x ∈ cp15Readable s, cp15Read (cp15Id x.1.1 0#3 x.1.2.1 x.1.2.2) s = .ok (x.2, s) := by
  simp only [cp15Readable, List.forall_mem_cons]
  exact ⟨rfl, rfl, rfl, rfl, rfl, rfl, rfl, rfl, rfl, rfl, List.forall_mem_nil _⟩

/-! ## MCR and MRC to CP15 in a privileged mode (R704, R705) -/

theorem coprocessorAccess_cp15 {s : State} (hp : s.privileged = true) : coprocessorAccess 15#4 s = .ok ((), s) := by
  simp [coprocessorAccess, hp]

theorem exec_armMcr {s : State} {c : Cond} (hc : condPassed c s.cpsr = true) (hp : s.privileged = true) {rd : RegNum}
    (hrd : rd ≠ 15#4) (op1 : BitVec 3) (crn crm : BitVec 4) (op2 : BitVec 3) :
    exec (.armMcr c op1 crn rd 15#4 op2 crm) s = outcomeOf (cp15Write (cp15Id crn op1 crm op2) (s.reg rd) s) := by
  show runAct (whenPassed c _) s = _
  rw [runAct_outcomeOf, whenPassed_passed hc, act_bind_ok (coprocessorAccess_cp15 hp), beq_false_of_ne hrd,
    act_bind_ok (unpredictableIf_false _ s), act_bind_ok (readReg_apply rd s)]

theorem exec_armMcr_pc {s : State} {c : Cond} (hc : condPassed c s.cpsr = true) (hp : s.privileged = true)
    (op1 : BitVec 3) (crn crm : BitVec 4) (op2 : BitVec 3) :
    exec (.armMcr c op1 crn 15#4 15#4 op2 crm) s = .refused (.unpredictable .mcrFromPc) := by
  show runAct (whenPassed c _) s = _
  rw [runAct_outcomeOf, whenPassed_passed hc, act_bind_ok (coprocessorAccess_cp15 hp)]
  rfl

/-- Where MRC puts the value it read: Rd, or for Rd = 15 the flags (R711). -/
def mrcWrite (rd : RegNum) (v : Word) : Act Unit :=
  if rd = 15#4 then setCpsrFlags (copyFlags v) else writeReg rd v

theorem exec_armMrc {s : State} {c : Cond} (hc : condPassed c s.cpsr = true) (hp : s.privileged = true) (rd : RegNum)
    (op1 : BitVec 3) (crn crm : BitVec 4) (op2 : BitVec 3) :
    exec (.armMrc c op1 crn rd 15#4 op2 crm) s
      = outcomeOf ((cp15Read (cp15Id crn op1 crm op2) >>= mrcWrite rd) s) := by
  show runAct (whenPassed c _) s = _
  rw [runAct_outcomeOf, whenPassed_passed hc, act_bind_ok (coprocessorAccess_cp15 hp)]
  rfl

theorem mrcWrite_reg {rd : RegNum} (h : rd ≠ 15#4) (v : Word) (s : State) :
    mrcWrite rd v s = .ok ((), s.setReg rd v) := by
  unfold mrcWrite
  rw [if_neg h, writeReg_apply]

theorem mrcWrite_flags (v : Word) (s : State) :
    mrcWrite 15#4 v s = .ok ((), { s with cpsr := copyFlags v s.cpsr }) := rfl

/-- N, Z, C and V are the value's top four bits; the other bits stay (R711). -/
theorem getLsbD_copyFlags (v p : Word) (j : Nat) :
    (copyFlags v p).getLsbD j = if 28 ≤ j then v.getLsbD j else p.getLsbD j := by
  by_cases hj : j < 32
  · rw [copyFlags, getLsbD_withNZCV]
    by_cases h28 : 28 ≤ j
    · interval_cases j <;> rfl
    · rw [if_neg (by omega), if_neg (by omega), if_neg (by omega), if_neg (by omega), if_neg h28]
  · rw [BitVec.getLsbD_of_ge _ _ (by omega), BitVec.getLsbD_of_ge v _ (by omega), if_pos (by omega)]

/-- The control register's stored and fixed bits (R123). -/
theorem getLsbD_controlWritten (v : Word) {j : Nat} (hj : j < 32) :
    (controlWritten v).getLsbD j
      = if j < 4 ∨ (8 ≤ j ∧ j ≤ 14) then v.getLsbD j else decide (4 ≤ j ∧ j ≤ 6) := by
  unfold controlWritten
  rw [BitVec.getLsbD_or, BitVec.getLsbD_and]
  interval_cases j <;> simp

/-- Settles O35. -/
theorem cp15Writes : Obligations.Cp15Writes := by
  unfold Obligations.Cp15Writes
  intro s c rd op1 crn crm op2 hc hp hrd
  refine ⟨?_, exec_armMcr_pc hc hp op1 crn crm op2⟩
  simp only [exec_armMcr hc hp hrd]
  generalize s.reg rd = v
  refine ⟨rfl, rfl, fun h7 h15 => ?_, fun h7 => ?_, fun h7 h15 => ?_, rfl, rfl, rfl, rfl, rfl, fun x hx => ?_, rfl,
    rfl, fun hv => ?_, fun hv => ?_, fun hid => ?_⟩
  · refine ⟨{ s with control := controlWritten v }, ?_, rfl, fun j hj => getLsbD_controlWritten v hj⟩
    show outcomeOf ((if _ then _ else if _ then _ else _ : Act Unit) s) = _
    rw [h7, if_neg Bool.false_ne_true, h15, if_neg Bool.false_ne_true]
    rfl
  · show outcomeOf ((if _ then _ else _ : Act Unit) s) = _
    rw [if_pos h7]
    rfl
  · show outcomeOf ((if _ then _ else if _ then _ else _ : Act Unit) s) = _
    rw [h7, if_neg Bool.false_ne_true, if_pos h15]
    rfl
  · rw [cp15Write_maintenance (cp15Reg_maintenance hx), outcomeOf_ok]
  · show outcomeOf ((if _ then _ else _ : Act Unit) s) = _
    rw [if_pos hv]
    rfl
  · show outcomeOf ((if _ then _ else _ : Act Unit) s) = _
    rw [if_neg hv]
    rfl
  · rw [cp15Write_invalid (cp15Reg_invalid hid), outcomeOf_refused]

/-- Settles O36. -/
theorem cp15Reads : Obligations.Cp15Reads := by
  unfold Obligations.Cp15Reads
  intro s c rd hc hp
  simp only [exec_armMrc hc hp]
  refine ⟨fun x hx => ?_, fun x hx => ?_, fun op1 crn crm op2 hid => ?_⟩
  · rw [act_bind_ok (cp15Read_readable s x hx)]
    refine ⟨fun hrd => by rw [mrcWrite_reg hrd, outcomeOf_ok], ?_⟩
    rintro rfl
    exact ⟨{ s with cpsr := copyFlags x.2 s.cpsr }, by rw [mrcWrite_flags, outcomeOf_ok], rfl,
      getLsbD_copyFlags x.2 s.cpsr⟩
  · have hread : cp15Read (cp15Id x.1 0#3 x.2.1 x.2.2) s = .error (.refused (.unsupported .invalidCp15Access)) := by
      rcases List.mem_cons.1 hx with rfl | hx
      · rfl
      · exact cp15Read_maintenance (cp15Reg_maintenance hx) s
    rw [act_bind_error hread, outcomeOf_refused]
  · rw [act_bind_error (cp15Read_invalid (cp15Reg_invalid hid) s), outcomeOf_refused]

end Sys2Proof.Machine
end

section
/-! PROOFS. LDM(3), POP and LDMIA (O26, O45). -/

namespace Sys2Proof.Machine

/-! ## Addresses and lists (R550) -/

theorem blockStart_eq (p u : Bool) (b : Word) (list : BitVec 16) :
    blockStart p u b (listBytes list) = startOf p u b (listRegs list).length := by
  cases p <;> cases u <;> rfl

theorem blockWriteBack_eq (u : Bool) (b : Word) (list : BitVec 16) :
    blockWriteBack u b (listBytes list) = endOf u b (listRegs list).length := by
  cases u <;> rfl

theorem getLsbD_withPc (list : BitVec 15) (r : RegNum) :
    (withPc list).getLsbD r.toNat = (r == 15#4 || list.getLsbD r.toNat) := by
  have hr : (0x8000#16).getLsbD r.toNat = (r == 15#4) := by revert r; decide
  rw [withPc, BitVec.getLsbD_or, BitVec.getLsbD_setWidth, hr, decide_eq_true r.isLt, Bool.true_and, Bool.or_comm]

theorem withPc_ne_zero (list : BitVec 15) : withPc list ≠ 0#16 := by
  intro h
  have h15 := getLsbD_withPc list 15#4
  rw [h] at h15
  cases h15

/-! ## Loaded registers (R552, R553) -/

section
variable {s : State} {p : Bool} {list : BitVec 16} {a : Word} {vs : List (RegNum × Word)}

theorem reg_setRegs_loaded (h : s.loadWords p (listRegs list) a = some vs) (t : State) {r : RegNum} {v : Word}
    (hv : (r, v) ∈ vs) (hr : r ≠ 15#4) : (t.setRegs vs).reg r = v :=
  t.reg_setRegs_mem (by rw [loadWords_fst h]; exact nodup_listRegs list) hv hr

theorem reg_setRegs_unlisted (h : s.loadWords p (listRegs list) a = some vs) (t : State) {r : RegNum}
    (hr : list.getLsbD r.toNat = false) : (t.setRegs vs).reg r = t.reg r :=
  t.reg_setRegs_other (by rw [loadWords_fst h, mem_listRegs, hr]; exact Bool.false_ne_true)

theorem mem_list_of_loaded (h : s.loadWords p (listRegs list) a = some vs) {r : RegNum} {v : Word}
    (hv : (r, v) ∈ vs) : list.getLsbD r.toNat = true := by
  rw [← mem_listRegs, ← loadWords_fst h]
  exact List.mem_map_of_mem (f := Prod.fst) hv

end

theorem State.writtenBack_eta (s : State) (rn : RegNum) (wb : Option Word) :
    { s with regs := (s.writtenBack rn wb).regs } = s.writtenBack rn wb := by
  cases wb
  · rfl
  · exact s.setReg_eta rn _

/-- A load multiple's write-back and its registers change the register cells only. -/
theorem State.loaded_eta (s : State) (rn : RegNum) (wb : Option Word) (vs : List (RegNum × Word)) :
    { s with regs := ((s.writtenBack rn wb).setRegs vs).regs } = (s.writtenBack rn wb).setRegs vs := by
  rw [← State.setRegs_eta, ← State.writtenBack_eta]

theorem State.loaded_spsr (s : State) (rn : RegNum) (wb : Option Word) (vs : List (RegNum × Word)) :
    ((s.writtenBack rn wb).setRegs vs).spsr = s.spsr := by rw [← State.loaded_eta]

theorem State.loaded_mode (s : State) (rn : RegNum) (wb : Option Word) (vs : List (RegNum × Word)) :
    ((s.writtenBack rn wb).setRegs vs).mode = s.mode := by
  rw [← State.loaded_eta]
  rfl

theorem State.reg_writtenBack (s : State) {rn : RegNum} (hrn : rn ≠ 15#4) (w : Bool) (v : Word) (r : RegNum) :
    (s.writtenBack rn (if w then some v else none)).reg r = if w = true ∧ r = rn then v else s.reg r := by
  cases w
  · simp
  · simp [State.reg_setReg s rn r v hrn]

/-! ## LDM(3) (R556) -/

/-- What LDM(3) writes once every word is loaded: the base, the registers, and the return from the exception. -/
def ldm3Write (rn : RegNum) (wb : Option Word) (vs : List (RegNum × Word)) : Act Unit := do
  writeBackBase rn wb
  change fun s => s.setRegs vs
  match loadedPc vs with
  | some v => returnFromException v
  | none => pure ()

theorem exec_armLdm3 (c : Cond) (p u w : Bool) (rn : RegNum) (list : BitVec 15) (s : State) :
    exec (.armLdm3 c p u w rn list) s
      = runAct (whenPassed c (do
          let _ ← currentBank
          unpredictableIf (loadListRestricted w rn (withPc list)) .blockList
          let b ← readReg rn
          let priv ← look State.privileged
          let vs ← loadList priv (listRegs (withPc list)) (blockStart p u b (listBytes (withPc list)))
          ldm3Write rn (if w then some (blockWriteBack u b (listBytes (withPc list))) else none) vs)) s := rfl

theorem loadListRestricted_withPc (w : Bool) (rn : RegNum) (list : BitVec 15) :
    loadListRestricted w rn (withPc list) = true ↔ rn = 15#4 ∨ (w = true ∧ list.getLsbD rn.toNat = true) := by
  unfold loadListRestricted
  rw [beq_false_of_ne (withPc_ne_zero list), getLsbD_withPc]
  by_cases hrn : rn = 15#4 <;> simp [hrn]

section
variable {s : State} {c : Cond} {rn : RegNum} {list : BitVec 15} {w : Bool} {b : Bank}

theorem exec_armLdm3_user (hc : condPassed c s.cpsr = true) (hb : s.mode.bank = none) (p u : Bool) :
    exec (.armLdm3 c p u w rn list) s = .fault .spsrAccess := by
  rw [exec_armLdm3, runAct_outcomeOf, whenPassed_passed hc, act_bind_error (currentBank_none hb), outcomeOf_fault]

theorem exec_armLdm3_restricted (hc : condPassed c s.cpsr = true) (hb : s.mode.bank = some b)
    (h : rn = 15#4 ∨ (w = true ∧ list.getLsbD rn.toNat = true)) (p u : Bool) :
    exec (.armLdm3 c p u w rn list) s = .refused (.unpredictable .blockList) := by
  rw [exec_armLdm3, runAct_outcomeOf, whenPassed_passed hc, act_bind_ok (currentBank_some hb),
    (loadListRestricted_withPc w rn list).2 h, act_bind_error (unpredictableIf_true _ s), outcomeOf_refused]

theorem exec_armLdm3_loads (hc : condPassed c s.cpsr = true) (hb : s.mode.bank = some b) (hrn : rn ≠ 15#4)
    (hw : w = true → list.getLsbD rn.toNat = false) (p u : Bool) :
    exec (.armLdm3 c p u w rn list) s
      = outcomeOf ((loadList s.privileged (listRegs (withPc list))
            (startOf p u (s.reg rn) (listRegs (withPc list)).length)
          >>= ldm3Write rn (if w then some (endOf u (s.reg rn) (listRegs (withPc list)).length) else none)) s) := by
  have hl : loadListRestricted w rn (withPc list) = false := by
    rw [Bool.eq_false_iff, ne_eq, loadListRestricted_withPc]
    rintro (h | ⟨h, hmem⟩)
    · exact hrn h
    · rw [hw h] at hmem
      cases hmem
  rw [exec_armLdm3, runAct_outcomeOf, whenPassed_passed hc, act_bind_ok (currentBank_some hb), hl,
    act_bind_ok (unpredictableIf_false _ s), act_bind_ok (readReg_apply rn s), act_bind_ok (look_apply _ s),
    blockStart_eq, blockWriteBack_eq]

end

/-- The end of LDM(3) where the SPSR holds a legal mode. -/
theorem ldm3Write_apply {s : State} {b : Bank} {rn : RegNum} {wb : Option Word} {vs : List (RegNum × Word)} {v : Word}
    (hb : s.mode.bank = some b) (hm : (Mode.ofBits (psrM (s.spsr.get b))).isSome = true) (hv : loadedPc vs = some v) :
    ldm3Write rn wb vs s = aluWritePC v { (s.writtenBack rn wb).setRegs vs with cpsr := s.spsr.get b } := by
  unfold ldm3Write
  rw [hv, act_bind_ok (writeBackBase_apply rn wb s), act_bind_ok (change_apply _ _)]
  dsimp only
  rw [returnFromException_apply (b := b) (by rwa [State.loaded_mode]) (by rwa [State.loaded_spsr])]
  simp only [State.loaded_spsr]

/-- Settles O26. -/
theorem loadMultipleReturns : Obligations.LoadMultipleReturns := by
  unfold Obligations.LoadMultipleReturns
  intro s c p u w rn list hc
  refine ⟨fun hb => exec_armLdm3_user hc hb p u, fun hb h => ?_, fun k t hb hrn hw hf hp => ?_,
    fun b vs v hb hf hm hrn hw => ?_⟩
  · obtain ⟨b, hb⟩ := Option.ne_none_iff_exists'.1 hb
    exact ⟨.blockList, exec_armLdm3_restricted hc hb h p u⟩
  · obtain ⟨b, hb⟩ := Option.ne_none_iff_exists'.1 hb
    intro regs start hk hl ha
    have hload : loadList s.privileged (listRegs (withPc list))
        (startOf p u (s.reg rn) (listRegs (withPc list)).length) s = .error (.raised t) :=
      loadList_abort hf hp hk hl ha
    rw [exec_armLdm3_loads hc hb hrn hw, act_bind_error hload, outcomeOf_raised]
  · intro regs t hl hv
    have hl' : s.loadWords s.privileged (listRegs (withPc list))
        (startOf p u (s.reg rn) (listRegs (withPc list)).length) = some vs := hl
    refine ⟨?_, fun r x hx hr => reg_setRegs_loaded hl' _ hx hr, fun r hr hrl => ?_, ?_⟩
    · rw [exec_armLdm3_loads hc hb hrn hw, act_bind_ok (loadList_ok hf hl'),
        ldm3Write_apply hb hm (loadedPc_some hl' hv)]
      exact outcomeOf_aluWritePC v _
    · rw [reg_setRegs_unlisted hl' _ (by rw [getLsbD_withPc, hrl, beq_false_of_ne hr]; rfl),
        State.reg_writtenBack s hrn]
    · exact congrArg (fun x : State => { x with regs := s.regs }) (State.loaded_eta s rn _ vs).symm

/-! ## POP and LDMIA (R818, R819) -/

theorem popList_true (list : BitVec 8) : popList true list = list.setWidth 16 ||| 0x8000#16 := rfl

theorem popList_false (list : BitVec 8) : popList false list = list.setWidth 16 := BitVec.or_zero

/-- A low-register list names registers below r8 only. -/
theorem getLsbD_lowList {list : BitVec 8} {r : RegNum} (hr : 8 ≤ r.toNat) :
    (list.setWidth 16).getLsbD r.toNat = false := by
  rw [BitVec.getLsbD_setWidth, BitVec.getLsbD_of_ge list _ hr, Bool.and_false]

theorem lowList_ne_zero {list : BitVec 8} (h : list ≠ 0#8) : list.setWidth 16 ≠ 0#16 := by
  intro h0
  refine h (BitVec.eq_of_toNat_eq ?_)
  have := congrArg BitVec.toNat h0
  simpa [BitVec.toNat_setWidth, Nat.mod_eq_of_lt (show list.toNat < 65536 by omega)] using this

theorem popList_true_ne_zero (list : BitVec 8) : popList true list ≠ 0#16 := by
  intro h0
  have h15 := congrArg (fun x => x.getLsbD 15) h0
  simp [popList] at h15

/-- What POP writes once every word is loaded: the stack pointer, the registers, the PC. -/
def popWrite (sp : Word) (vs : List (RegNum × Word)) : Act Unit := do
  writeReg 13#4 sp
  change fun s => s.setRegs vs
  writeLoadedPc (loadedPc vs)

theorem exec_thumbPop {r : Bool} {list : BitVec 8} (h : popList r list ≠ 0#16) (s : State) :
    exec (.thumbPop r list) s
      = outcomeOf ((loadList s.privileged (listRegs (popList r list)) (s.reg 13#4)
          >>= popWrite (s.reg 13#4 + listBytes (popList r list))) s) := by
  show runAct _ s = _
  rw [runAct_outcomeOf, beq_false_of_ne h, act_bind_ok (unpredictableIf_false _ s), act_bind_ok (readReg_apply _ s),
    act_bind_ok (look_apply _ s)]
  rfl

/-- What LDMIA writes once every word is loaded: the base, then the registers. -/
def ldmiaWrite (rn : RegNum) (b : Word) (vs : List (RegNum × Word)) : Act Unit := do
  writeReg rn b
  change fun s => s.setRegs vs

theorem exec_thumbLdmia (rn : LowReg) {list : BitVec 8} (h : list ≠ 0#8) (s : State) :
    exec (.thumbLdmia rn list) s
      = outcomeOf ((loadList s.privileged (listRegs (list.setWidth 16)) (s.reg (lowReg rn))
          >>= ldmiaWrite (lowReg rn) (s.reg (lowReg rn) + listBytes (list.setWidth 16))) s) := by
  show runAct _ s = _
  rw [runAct_outcomeOf, beq_false_of_ne h, act_bind_ok (unpredictableIf_false _ s), act_bind_ok (readReg_apply _ s),
    act_bind_ok (look_apply _ s)]
  rfl

theorem popWrite_pc {vs : List (RegNum × Word)} {v : Word} (hv : loadedPc vs = some v) (sp : Word) (s : State) :
    popWrite sp vs s = bxWritePC v ((s.setReg 13#4 sp).setRegs vs) := by
  unfold popWrite
  rw [hv]
  rfl

theorem popWrite_noPc {vs : List (RegNum × Word)} (hv : loadedPc vs = none) (sp : Word) (s : State) :
    popWrite sp vs s = .ok ((), (s.setReg 13#4 sp).setRegs vs) := by
  unfold popWrite
  rw [hv]
  rfl

theorem ne_zero_of_lt_length {list : BitVec 16} {k : Nat} (h : k < (listRegs list).length) : list ≠ 0#16 := by
  rintro rfl
  exact Nat.not_lt_zero k h

/-- Settles O45. -/
theorem thumbLoadMultiple : Obligations.ThumbLoadMultiple := by
  unfold Obligations.ThumbLoadMultiple
  intro s rn list vs hf
  refine ⟨?_, ?_, fun pc k t hp => ⟨?_, ?_⟩, rfl, ?_, rfl⟩
  · intro regs t hlist hl
    have hne : popList false list ≠ 0#16 := by
      rw [popList_false]
      exact lowList_ne_zero hlist
    refine ⟨?_, fun r v hv => reg_setRegs_loaded hl _ hv ?_⟩
    · rw [exec_thumbPop hne, popList_false, act_bind_ok (loadList_ok hf hl),
        popWrite_noPc (loadedPc_none hl (getLsbD_lowList (r := 15#4) (by decide)))]
      rfl
    · rintro rfl
      exact absurd (mem_list_of_loaded hl hv) (by rw [getLsbD_lowList (by decide)]; exact Bool.false_ne_true)
  · intro regs t hl
    refine ⟨fun v hv => ?_, fun r v hv hr => reg_setRegs_loaded hl _ hv hr, ?_⟩
    · rw [exec_thumbPop (popList_true_ne_zero list), popList_true, act_bind_ok (loadList_ok hf hl),
        popWrite_pc (loadedPc_some hl hv)]
      exact outcomeOf_bxWritePC v _
    · have h13 : (list.setWidth 16 ||| 0x8000#16).getLsbD (13#4).toNat = false := by
        rw [BitVec.getLsbD_or, getLsbD_lowList (by decide)]
        rfl
      rw [reg_setRegs_unlisted hl _ h13, State.reg_setReg_same _ _ (by decide)]
  · intro regs hk hl ha
    have hload : loadList s.privileged (listRegs (popList pc list)) (s.reg 13#4) s = .error (.raised t) :=
      loadList_abort hf hp hk hl ha
    rw [exec_thumbPop (ne_zero_of_lt_length hk), act_bind_error hload, outcomeOf_raised]
  · intro regs b hk hl ha
    have hlist : list ≠ 0#8 := by
      rintro rfl
      exact ne_zero_of_lt_length hk rfl
    have hload : loadList s.privileged (listRegs (list.setWidth 16)) (s.reg (lowReg rn)) s = .error (.raised t) :=
      loadList_abort hf hp hk hl ha
    rw [exec_thumbLdmia rn hlist, act_bind_error hload, outcomeOf_raised]
  · intro regs b t hlist hl
    refine ⟨?_, fun r v hv => reg_setRegs_loaded hl _ hv ?_, fun hr => ?_⟩
    · have hload : loadList s.privileged (listRegs (list.setWidth 16)) (s.reg (lowReg rn)) s = .ok (vs, s) :=
        loadList_ok hf hl
      rw [exec_thumbLdmia rn hlist, act_bind_ok hload]
      rfl
    · rintro rfl
      exact absurd (mem_list_of_loaded hl hv) (by rw [getLsbD_lowList (by decide)]; exact Bool.false_ne_true)
    · have hrl : (list.setWidth 16).getLsbD (rn.setWidth 4 : RegNum).toNat = false := by
        rw [BitVec.getLsbD_setWidth, BitVec.toNat_setWidth, Nat.mod_eq_of_lt (by omega), hr, Bool.and_false]
      rw [reg_setRegs_unlisted hl _ hrl]
      exact State.reg_setReg_same _ _ (lowReg_ne_pc rn)

end Sys2Proof.Machine
end

section
/-! PROOFS. The banks, seen from every pair of modes (O56). -/

namespace Sys2Proof.Machine

/-! ## Which numbers share a cell (R103) -/

/-- The register number that names a cell, whatever the mode (R103). -/
def PhysReg.number : PhysReg → RegNum
  | .r0 => 0#4
  | .r1 => 1#4
  | .r2 => 2#4
  | .r3 => 3#4
  | .r4 => 4#4
  | .r5 => 5#4
  | .r6 => 6#4
  | .r7 => 7#4
  | .r8usr | .r8fiq => 8#4
  | .r9usr | .r9fiq => 9#4
  | .r10usr | .r10fiq => 10#4
  | .r11usr | .r11fiq => 11#4
  | .r12usr | .r12fiq => 12#4
  | .r13usr | .r13svc | .r13abt | .r13und | .r13irq | .r13fiq => 13#4
  | .r14usr | .r14svc | .r14abt | .r14und | .r14irq | .r14fiq => 14#4

theorem Mode.number_of_cell {m : Mode} {n : RegNum} {p : PhysReg} (h : m.cell n = some p) : p.number = n := by
  unfold Mode.cell at h
  split at h <;> cases h <;> cases m <;> rfl

/-- Two modes name one cell by equal numbers only. -/
theorem Mode.cell_number_unique {m m' : Mode} {n n' : RegNum} {p : PhysReg} (h : m.cell n = some p)
    (h' : m'.cell n' = some p) : n = n' := (Mode.number_of_cell h).symm.trans (Mode.number_of_cell h')

/-- r0 to r7 have one bank. -/
theorem Mode.cell_low (m m' : Mode) {n : RegNum} (h : n.toNat < 8) : m'.cell n = m.cell n := by
  revert n
  cases m <;> cases m' <;> decide

/-- r8 to r12 have a bank of FIQ and a bank of every other mode. -/
theorem Mode.cell_mid (m m' : Mode) {n : RegNum} (h : 8 ≤ n.toNat) (h' : n.toNat < 13) :
    m'.cell n = m.cell n ↔ (m = .fiq ↔ m' = .fiq) := by
  revert n
  cases m <;> cases m' <;> decide

/-- r13 and r14 have the bank of the mode. -/
theorem Mode.cell_high (m m' : Mode) {n : RegNum} (h : 13 ≤ n.toNat) (h' : n ≠ 15#4) :
    m'.cell n = m.cell n ↔ m.bank = m'.bank := by
  revert n
  cases m <;> cases m' <;> decide

theorem Mode.cell_sys (n : RegNum) : Mode.sys.cell n = Mode.usr.cell n := by
  revert n
  decide

theorem Spsrs.get_set (r : Spsrs) (b c : Bank) (v : Word) : (r.set b v).get c = if c = b then v else r.get c := by
  split
  · next h => rw [h, Spsrs.get_set_same]
  · next h => exact r.get_set_other v h

/-! ## A state seen in another mode -/

/-- The state with another mode in the CPSR. -/
def State.inMode (s : State) (m : Mode) : State := { s with cpsr := withM s.cpsr m }

theorem State.inMode_mode (s : State) (m : Mode) : (s.inMode m).mode = m :=
  State.mode_of_bits (psrM_withM s.cpsr m)

theorem State.reg_inMode (s : State) {m : Mode} {n : RegNum} {p : PhysReg} (h : m.cell n = some p) :
    (s.inMode m).reg n = s.regs.get p := State.reg_of_cell (by rw [State.inMode_mode, h])

theorem State.regs_inMode_setReg (s : State) {m : Mode} {n : RegNum} {p : PhysReg} (h : m.cell n = some p) (v : Word) :
    ((s.inMode m).setReg n v).regs = s.regs.set p v := by
  rw [State.setReg_of_cell v (by rw [State.inMode_mode, h])]
  rfl

theorem psrT_withM (p : Word) (m : Mode) : psrT (withM p m) = psrT p := by
  simp only [psrT, getLsbD_withM, Nat.reduceLT, if_false]

/-- The PC is no bank's: it reads alike in every mode. -/
theorem State.reg_pc_inMode (s : State) (m : Mode) : (s.inMode m).reg 15#4 = s.pcOperand := by
  rw [State.reg_pc]
  simp [State.pcOperand, State.pcOffset, State.inMode, psrT_withM]

/-- A register read in one mode after a register is written in another: the written value where the two name one
cell. -/
theorem State.reg_inMode_setReg (s : State) {m m' : Mode} {n n' : RegNum} (hn : n ≠ 15#4) (hn' : n' ≠ 15#4)
    (v : Word) :
    (((s.inMode m).setReg n v).inMode m').reg n' = if m'.cell n' = m.cell n then v else (s.inMode m').reg n' := by
  obtain ⟨p, hp⟩ := m.cell_some hn
  obtain ⟨q, hq⟩ := m'.cell_some hn'
  rw [State.reg_inMode _ hq, State.reg_inMode _ hq, State.regs_inMode_setReg s hp, Regs.get_set, hp, hq]
  simp only [Option.some.injEq]

theorem State.reg_inMode_setReg_other (s : State) (m m' : Mode) {n n' : RegNum} (hn : n ≠ 15#4) (h : n' ≠ n)
    (v : Word) :
    (((s.inMode m).setReg n v).inMode m').reg n' = (s.inMode m').reg n' := by
  by_cases hn' : n' = 15#4
  · subst hn'
    rw [State.reg_pc_inMode, State.reg_pc_inMode, State.setReg_pcOperand, ← State.reg_pc, State.reg_pc_inMode]
  · rw [State.reg_inMode_setReg s hn hn', if_neg]
    intro he
    obtain ⟨p, hp⟩ := m.cell_some hn
    exact h (Mode.cell_number_unique (he.trans hp) hp)

theorem State.userReg_eq_inMode (s : State) {n : RegNum} (hn : n ≠ 15#4) {m : Mode}
    (hm : m.cell n = Mode.usr.cell n) : s.userReg n = (s.inMode m).reg n := by
  obtain ⟨p, hp⟩ := Mode.usr.cell_some hn
  rw [State.reg_inMode s (hm.trans hp)]
  simp [State.userReg, hp]

theorem State.setUserReg_eq_inMode (s : State) {n : RegNum} (hn : n ≠ 15#4) (v : Word) :
    { (s.inMode .usr).setReg n v with cpsr := s.cpsr } = s.setUserReg n v := by
  obtain ⟨p, hp⟩ := Mode.usr.cell_some hn
  rw [State.setReg_of_cell v (by rw [State.inMode_mode, hp])]
  simp [State.setUserReg, hp, State.inMode]

/-- Settles O56. -/
theorem bankedRegisters : Obligations.BankedRegisters := by
  unfold Obligations.BankedRegisters
  intro s m m' n n' v hn inMode w
  refine ⟨State.reg_setReg_same _ v hn, fun h => s.reg_inMode_setReg_other m m' hn h v, fun h => ?_, fun h h' => ?_,
    fun h => ?_, s.userReg_eq_inMode hn rfl, s.userReg_eq_inMode hn (Mode.cell_sys n), s.userReg_setUserReg_same v hn,
    s.setUserReg_eq_inMode hn v, ?_, fun b b' => s.spsr.get_set b b' v⟩
  · exact (s.reg_inMode_setReg hn hn v).trans (if_pos (Mode.cell_low m m' h))
  · exact (s.reg_inMode_setReg hn hn v).trans (if_congr (Mode.cell_mid m m' h h') rfl rfl)
  · exact (s.reg_inMode_setReg hn hn v).trans (if_congr (Mode.cell_high m m' h hn) rfl rfl)
  · exact (congrArg Mode.bank (s.inMode_mode m)).trans (by cases m <;> rfl)

end Sys2Proof.Machine
end

section
/-! PROOFS. One step: the decoded instruction, and the first step after reset (O5, O57). -/

namespace Sys2Proof.Machine

/-! ## Little-endian units (R202) -/

theorem read_half_eq_append (m : Memory) (a : Word) :
    (m.read .half a).setWidth 16 = m.readByte (a.toNat + 1) ++ m.readByte (a.toNat + 0) := by
  apply BitVec.eq_of_getLsbD_eq
  intro i hi
  simp only [Memory.read, BitVec.getLsbD_setWidth, BitVec.getLsbD_or, BitVec.getLsbD_shiftLeft, BitVec.getLsbD_append]
  interval_cases i <;> simp

theorem read_word_eq_append (m : Memory) (a : Word) :
    m.read .word a = (m.readByte (a.toNat + 3) ++ m.readByte (a.toNat + 2) : Half)
      ++ (m.readByte (a.toNat + 1) ++ m.readByte (a.toNat + 0) : Half) := by
  apply BitVec.eq_of_getLsbD_eq
  intro i hi
  simp only [Memory.read, BitVec.getLsbD_setWidth, BitVec.getLsbD_or, BitVec.getLsbD_shiftLeft, BitVec.getLsbD_append]
  interval_cases i <;> simp

/-! ## Fetch (R300) -/

section
variable {s : State} {pa pa2 : Word}

theorem fetch_arm (ht : psrT s.cpsr = false) (h : s.fetchesAt s.pc .word pa) :
    fetch s = .ok (.arm (s.mem.read .word pa), s) := by
  unfold fetch
  rw [act_bind_ok (look_apply _ s), act_bind_ok (look_apply _ s), ht, if_neg Bool.false_ne_true,
    act_bind_ok (fetchRead_ok h), act_pure]

theorem fetch_thumb (ht : psrT s.cpsr = true) (h : s.fetchesAt s.pc .half pa)
    (hp : isThumb32Prefix ((s.mem.read .half pa).setWidth 16) = false) :
    fetch s = .ok (.thumb ((s.mem.read .half pa).setWidth 16), s) := by
  unfold fetch
  rw [act_bind_ok (look_apply _ s), act_bind_ok (look_apply _ s), ht, if_pos rfl, act_bind_ok (fetchRead_ok h),
    hp, if_neg Bool.false_ne_true, act_pure]

theorem fetch_thumb32 (ht : psrT s.cpsr = true) (h : s.fetchesAt s.pc .half pa)
    (h2 : s.fetchesAt (s.pc + 2#32) .half pa2) (hp : isThumb32Prefix ((s.mem.read .half pa).setWidth 16) = true) :
    fetch s = .ok (.thumb32 ((s.mem.read .half pa).setWidth 16 ++ (s.mem.read .half pa2).setWidth 16), s) := by
  unfold fetch
  rw [act_bind_ok (look_apply _ s), act_bind_ok (look_apply _ s), ht, if_pos rfl, act_bind_ok (fetchRead_ok h),
    hp, if_pos rfl, act_bind_ok (fetchRead_ok h2), act_pure]

end

/-! ## Decoding from bytes (R302) -/

theorem decodeBytes_inv {thumb : Bool} {bs rest : List Byte} {i : Instr} (h : decodeBytes thumb bs = .ok (i, rest)) :
    ∃ c, codeOfBytes thumb bs = .ok (c, rest) ∧ decode c = .ok i := by
  unfold decodeBytes at h
  split at h
  · next c r hc =>
    split at h
    · next j hj =>
      cases h
      exact ⟨c, hc, hj⟩
    · cases h
  · cases h

theorem codeOfBytes_two_inv {b0 b1 : Byte} {c : Code} (h : codeOfBytes true [b0, b1] = .ok (c, [])) :
    isThumb32Prefix (b1 ++ b0) = false ∧ c = .thumb (b1 ++ b0) := by
  unfold codeOfBytes at h
  dsimp only at h
  split at h
  · next hp =>
    cases h
    exact ⟨by simpa using hp, rfl⟩
  · cases h

theorem codeOfBytes_four_inv {b0 b1 b2 b3 : Byte} {c : Code} (h : codeOfBytes true [b0, b1, b2, b3] = .ok (c, [])) :
    isThumb32Prefix (b1 ++ b0) = true ∧ c = .thumb32 ((b1 ++ b0 : Half) ++ (b3 ++ b2 : Half)) := by
  unfold codeOfBytes at h
  dsimp only at h
  split at h
  · cases h
  · next hp =>
    cases h
    exact ⟨by simpa using hp, rfl⟩

/-- The bytes at the PC decode to an instruction of the given length, in each of the three shapes of a fetch: the
hypothesis of StepRunsDecodedInstruction. -/
def State.fetchesInstr (s : State) (i : Instr) (len pa pa2 : Word) : Prop :=
  let b (a : Word) (k : Nat) : Byte := s.mem.readByte (a.toNat + k)
  (psrT s.cpsr = false ∧ len = 4#32 ∧ s.fetchesAt s.pc .word pa
      ∧ decodeBytes false [b pa 0, b pa 1, b pa 2, b pa 3] = .ok (i, []))
    ∨ (psrT s.cpsr = true ∧ len = 2#32 ∧ s.fetchesAt s.pc .half pa
      ∧ decodeBytes true [b pa 0, b pa 1] = .ok (i, []))
    ∨ (psrT s.cpsr = true ∧ len = 4#32 ∧ s.fetchesAt s.pc .half pa ∧ s.fetchesAt (s.pc + 2#32) .half pa2
      ∧ decodeBytes true [b pa 0, b pa 1, b pa2 0, b pa2 1] = .ok (i, []))

/-- The fetch answers the code of the bytes at the PC. -/
theorem fetch_of_bytes {s : State} {i : Instr} {len pa pa2 : Word} (h : s.fetchesInstr i len pa pa2) :
    ∃ c, fetch s = .ok (c, s) ∧ decode c = .ok i ∧ c.len = len := by
  rcases h with ⟨ht, rfl, hf, hd⟩ | ⟨ht, rfl, hf, hd⟩ | ⟨ht, rfl, hf, hf2, hd⟩
  · obtain ⟨c, hc, hi⟩ := decodeBytes_inv hd
    cases hc
    exact ⟨_, by rw [fetch_arm ht hf, read_word_eq_append], hi, rfl⟩
  · obtain ⟨c, hc, hi⟩ := decodeBytes_inv hd
    obtain ⟨hp, rfl⟩ := codeOfBytes_two_inv hc
    rw [← read_half_eq_append] at hp hi
    exact ⟨_, fetch_thumb ht hf hp, hi, rfl⟩
  · obtain ⟨c, hc, hi⟩ := decodeBytes_inv hd
    obtain ⟨hp, rfl⟩ := codeOfBytes_four_inv hc
    rw [← read_half_eq_append] at hp
    rw [← read_half_eq_append, ← read_half_eq_append] at hi
    exact ⟨_, fetch_thumb32 ht hf hf2 hp, hi, rfl⟩

/-! ## The phases before the fetch (R900, R931) -/

theorem sampleLines_masked {l : Lines} {s : State} (hf : (l.fiq && !psrF s.cpsr) = false)
    (hi : (l.irq && !psrI s.cpsr) = false) : sampleLines l s = .ok ((), s) := by
  unfold sampleLines
  rw [hf, hi, if_neg Bool.false_ne_true, if_neg Bool.false_ne_true]

theorem State.dispatch_of_empty {s : State} (h : s.pending = Pending.empty) : s.dispatch = s := by
  unfold State.dispatch
  rw [Pending.first_eq_none.2 h]

/-- A core that is not waiting takes its next line values and runs the phases from dispatch on. -/
theorem step_not_waiting {s : State} (h : s.waiting = false) : step s = activeStep s.currentLines s.sampled := by
  have hs : ({ s.sampled with waiting := false } : State) = s.sampled := by
    rw [← h]
    rfl
  unfold step
  rw [if_neg (by simp [State.idle, h]), hs]

/-- With both interrupts masked after dispatch, an active step depends on the state after dispatch only, not on the
lines. -/
theorem activeStep_congr_masked {s s' : State} (hs : s'.dispatch = s.dispatch) (hF : psrF s.dispatch.cpsr = true)
    (hI : psrI s.dispatch.cpsr = true) (l l' : Lines) : activeStep l s = activeStep l' s' := by
  have hsample : ∀ k : Lines, sampleLines k s.dispatch = .ok ((), s.dispatch) := fun k =>
    sampleLines_masked (by simp [hF]) (by simp [hI])
  unfold activeStep
  rw [hs, act_bind_ok (hsample l), act_bind_ok (hsample l')]

/-- A step that fetches code of a decoded instruction executes it. -/
theorem activeStep_decoded {l : Lines} {s : State} {c : Code} {i : Instr}
    (hf : (l.fiq && !psrF s.dispatch.cpsr) = false) (hi : (l.irq && !psrI s.dispatch.cpsr) = false)
    (hc : fetch s.dispatch = .ok (c, s.dispatch)) (hd : decode c = .ok i) :
    activeStep l s = afterExec c.len s.dispatch (exec i s.dispatch) := by
  unfold activeStep
  rw [act_bind_ok (sampleLines_masked hf hi), hc]
  dsimp only
  rw [hd]

/-- The end of a step from a state with no exception pending. -/
theorem afterExec_next {len : Word} {s t : State} (hp : s.pending = Pending.empty) :
    afterExec len s (.next t)
      = if t.pending = Pending.empty then
          .next { t with pc := if t.jumped then t.pc else t.pc + len, faultFlag := false, jumped := false }
        else .next { t with faultFlag := false, jumped := false } := by
  have ha : (t.advance len).endStep
      = { t with pc := if t.jumped then t.pc else t.pc + len, faultFlag := false, jumped := false } := by
    unfold State.advance
    split <;> rfl
  rw [← ha, ← hp]
  rfl

/-- Settles O5. -/
theorem stepRunsDecodedInstruction : Obligations.StepRunsDecodedInstruction := by
  unfold Obligations.StepRunsDecodedInstruction
  intro s i len pa pa2 hw hp hf hi hbytes
  have hfetch : s.sampled.fetchesInstr i len pa pa2 := hbytes
  obtain ⟨c, hc, hd, rfl⟩ := fetch_of_bytes hfetch
  have hdisp : s.sampled.dispatch = s.sampled := State.dispatch_of_empty hp
  have hstep : step s = afterExec c.len s.sampled (exec i s.sampled) := by
    rw [step_not_waiting hw, activeStep_decoded (by rwa [hdisp]) (by rwa [hdisp]) (by rwa [hdisp]) hd, hdisp]
  rw [hstep]
  split
  · next t ht => rw [ht, afterExec_next (s := s.sampled) hp]
  · next f hf => rw [hf]; rfl
  · next r hr => rw [hr]; rfl

theorem State.dispatch_of_first {s : State} {k : ExcKind} (h : s.pending.first = some k) :
    s.dispatch = { s with pending := s.pending.set k none }.enterException k := by
  unfold State.dispatch
  rw [h]

/-- The state that the reset entry leaves, from the power-on state with any memory and any lines (R916, R1000). -/
def State.resetEntered (hivecs : Bool) (m : Memory) (l : List Lines) : State :=
  { State.powerOn hivecs with
    mem := m
    lines := l
    pending := Pending.empty
    spsr := (State.powerOn hivecs).spsr.set .svc 0x000000D3#32
    pc := if hivecs then 0xFFFF0000#32 else 0#32 }

theorem dispatch_powerOn (hivecs : Bool) (m : Memory) (l : List Lines) :
    ({ State.powerOn hivecs with mem := m, lines := l } : State).dispatch = State.resetEntered hivecs m l := by
  have hcpsr : entryCpsr .reset 0x000000D3#32 = 0x000000D3#32 := by decide
  have hpc : (State.powerOn hivecs).vectorBase + 0x00#32 = if hivecs then 0xFFFF0000#32 else 0#32 := by
    cases hivecs <;> decide
  rw [State.dispatch_of_first (k := .reset) rfl]
  unfold State.resetEntered
  rw [← hpc]
  exact congrArg (fun p : Word => { State.resetEntered hivecs m l with
    cpsr := p, pc := (State.powerOn hivecs).vectorBase + 0x00#32 }) hcpsr

/-- Settles O57: with both interrupts masked the lines of the first step have no effect. -/
theorem resetState : Obligations.ResetState := by
  unfold Obligations.ResetState
  intro hivecs m l
  refine ⟨rfl, rfl, by cases hivecs <;> rfl, rfl, rfl, rfl, rfl, dispatch_powerOn hivecs m l, ?_⟩
  rw [step_not_waiting rfl, step_not_waiting rfl]
  have hp : ({ State.powerOn hivecs with mem := m, lines := l } : State).sampled.dispatch
      = State.resetEntered hivecs m l.tail := dispatch_powerOn hivecs m l.tail
  have he : ({ State.resetEntered hivecs m l with lines := ⟨false, false⟩ :: l.tail } : State).sampled.dispatch
      = State.resetEntered hivecs m l.tail := State.dispatch_of_empty rfl
  have hF : psrF (State.resetEntered hivecs m l.tail).cpsr = true := (by decide : psrF 0x000000D3#32 = true)
  have hI : psrI (State.resetEntered hivecs m l.tail).cpsr = true := (by decide : psrI 0x000000D3#32 = true)
  exact activeStep_congr_masked (he.trans hp.symm) (by rw [hp, hF]) (by rw [hp, hI]) _ _

end Sys2Proof.Machine
end

section
/-! PROOFS. Address translation (O51 to O54). -/

namespace Sys2Proof.Machine

/-! ## Addresses of the walk in exact arithmetic (R213, R215, R216, R218 to R220) -/

/-- The high bits of a base, from bit k up, joined with a value below 2^k: no bit is in both. -/
theorem highBits_or {k : Nat} (hk : k ≤ 32) (base x : Word) (hx : x.toNat < 2 ^ k) :
    base >>> k <<< k ||| x = BitVec.ofNat 32 (base.toNat / 2 ^ k * 2 ^ k + x.toNat) := by
  have hlt : base.toNat / 2 ^ k * 2 ^ k < 2 ^ 32 := lt_of_le_of_lt (Nat.div_mul_le_self _ _) base.isLt
  apply BitVec.eq_of_toNat_eq
  rw [BitVec.toNat_or, BitVec.toNat_shiftLeft, BitVec.toNat_ushiftRight, Nat.shiftRight_eq_div_pow, Nat.shiftLeft_eq,
    Nat.mod_eq_of_lt hlt, ← Nat.shiftLeft_eq, ← Nat.shiftLeft_add_eq_or_of_lt hx, Nat.shiftLeft_eq,
    BitVec.toNat_ofNat, Nat.mod_eq_of_lt]
  have hpow : 2 ^ 32 = 2 ^ (32 - k) * 2 ^ k := by rw [← pow_add, Nat.sub_add_cancel hk]
  have hdiv : base.toNat / 2 ^ k < 2 ^ (32 - k) := by
    rw [Nat.div_lt_iff_lt_mul (by positivity), ← hpow]
    exact base.isLt
  calc base.toNat / 2 ^ k * 2 ^ k + x.toNat
      < (base.toNat / 2 ^ k + 1) * 2 ^ k := by rw [Nat.add_mul, Nat.one_mul]; omega
    _ ≤ 2 ^ 32 := hpow ▸ Nat.mul_le_mul_right _ hdiv

theorem l1Address_eq (ttb va : Word) :
    l1Address ttb va = BitVec.ofNat 32 (ttb.toNat / 2 ^ 14 * 2 ^ 14 + va.toNat / 2 ^ 20 * 4) := by
  have hv := va.isLt
  have hx : (va >>> 20 <<< 2).toNat = va.toNat / 2 ^ 20 * 4 := by
    rw [BitVec.toNat_shiftLeft, BitVec.toNat_ushiftRight, Nat.shiftRight_eq_div_pow, Nat.shiftLeft_eq]
    omega
  rw [← hx]
  exact highBits_or (by omega) ttb _ (by omega)

theorem coarseAddress_eq (d1 va : Word) :
    coarseAddress d1 va = BitVec.ofNat 32 (d1.toNat / 2 ^ 10 * 2 ^ 10 + va.toNat / 2 ^ 12 % 2 ^ 8 * 4) := by
  have hx : ((va.extractLsb' 12 8).setWidth 32 <<< 2 : Word).toNat = va.toNat / 2 ^ 12 % 2 ^ 8 * 4 := by
    rw [BitVec.toNat_shiftLeft, BitVec.toNat_setWidth, BitVec.extractLsb'_toNat, Nat.shiftRight_eq_div_pow,
      Nat.shiftLeft_eq]
    omega
  rw [← hx]
  exact highBits_or (by omega) d1 _ (by omega)

theorem fineAddress_eq (d1 va : Word) :
    fineAddress d1 va = BitVec.ofNat 32 (d1.toNat / 2 ^ 12 * 2 ^ 12 + va.toNat / 2 ^ 10 % 2 ^ 10 * 4) := by
  have hx : ((va.extractLsb' 10 10).setWidth 32 <<< 2 : Word).toNat = va.toNat / 2 ^ 10 % 2 ^ 10 * 4 := by
    rw [BitVec.toNat_shiftLeft, BitVec.toNat_setWidth, BitVec.extractLsb'_toNat, Nat.shiftRight_eq_div_pow,
      Nat.shiftLeft_eq]
    omega
  rw [← hx]
  exact highBits_or (by omega) d1 _ (by omega)

/-- The address bits below k: the bits above are shifted out at the top. -/
theorem toNat_lowBits {k : Nat} (hk : k ≤ 32) (va : Word) :
    (va <<< (32 - k) >>> (32 - k)).toNat = va.toNat % 2 ^ k := by
  have hpow : 2 ^ 32 = 2 ^ k * 2 ^ (32 - k) := by rw [← pow_add, Nat.add_sub_cancel' hk]
  rw [BitVec.toNat_ushiftRight, BitVec.toNat_shiftLeft, Nat.shiftRight_eq_div_pow, Nat.shiftLeft_eq, hpow,
    Nat.mul_mod_mul_right, Nat.mul_div_cancel _ (by positivity)]

theorem joinAddress_eq {k : Nat} (hk : k ≤ 32) (base va : Word) :
    joinAddress base va k = BitVec.ofNat 32 (base.toNat / 2 ^ k * 2 ^ k + va.toNat % 2 ^ k) := by
  rw [← toNat_lowBits hk va]
  refine highBits_or hk base _ ?_
  rw [toNat_lowBits hk va]
  exact Nat.mod_lt _ (by positivity)

/-- The sub-page that two address bits from bit k up select (R218, R219). -/
theorem subPageAp_eq (d2 va : Word) (k : Nat) :
    subPageAp d2 (va.extractLsb' k 2) = d2.extractLsb' (4 + 2 * (va.toNat / 2 ^ k % 4)) 2 := by
  unfold subPageAp
  rw [BitVec.extractLsb'_toNat, Nat.shiftRight_eq_div_pow]

/-! ## Permissions and domains (R222, R223) -/

/-- The row of AP = 00, which the control bits S and R select among; both set is the reserved row. -/
theorem permits_zero {s : State} {sys rom : Bool} (hs : s.systemProtect = sys) (hr : s.romProtect = rom)
    (priv isRead : Bool) :
    s.permits 0b00#2 priv isRead
      = if sys then if rom then none else some (priv && isRead)
        else if rom then some isRead else some false := by
  subst hs hr
  unfold State.permits
  cases s.systemProtect <;> cases s.romProtect <;> rfl

/-- Settles O54. -/
theorem permissionTable : Obligations.PermissionTable := by
  unfold Obligations.PermissionTable
  intro s priv isRead
  exact ⟨fun hs hr => permits_zero hs hr priv isRead, fun hs hr => permits_zero hs hr priv isRead,
    fun hs hr => permits_zero hs hr priv isRead, fun hs hr => permits_zero hs hr priv isRead, rfl, rfl, rfl⟩

/-- What the permission check of a client access answers (R223). -/
def State.checkPermission (s : State) (dom : BitVec 4) (ap : BitVec 2) (priv isRead : Bool) (permFault : FaultStatus)
    (pa : Word) : Translation :=
  match s.permits ap priv isRead with
  | some true => .ok pa
  | some false => .fault permFault (some dom)
  | none => .refused (.unpredictable .reservedPermission)

theorem domainAccess_eq (s : State) (dom : BitVec 4) :
    s.domainAccess dom
      = if s.dacr.extractLsb' (2 * dom.toNat) 2 = 0b00#2 ∨ s.dacr.extractLsb' (2 * dom.toNat) 2 = 0b10#2 then
          .noAccess
        else if s.dacr.extractLsb' (2 * dom.toNat) 2 = 0b11#2 then .manager
        else .client := by
  unfold State.domainAccess
  generalize s.dacr.extractLsb' (2 * dom.toNat) 2 = ctl
  revert ctl
  decide

/-- The domain check comes first; only a client's access meets the permission check (R222). -/
theorem checkAccess_eq (s : State) (dom : BitVec 4) (ap : BitVec 2) (priv isRead : Bool) (df pf : FaultStatus)
    (pa : Word) :
    s.checkAccess dom ap priv isRead df pf pa
      = if s.dacr.extractLsb' (2 * dom.toNat) 2 = 0b00#2 ∨ s.dacr.extractLsb' (2 * dom.toNat) 2 = 0b10#2 then
          .fault df (some dom)
        else if s.dacr.extractLsb' (2 * dom.toNat) 2 = 0b11#2 then .ok pa
        else s.checkPermission dom ap priv isRead pf pa := by
  unfold State.checkAccess
  rw [domainAccess_eq]
  split_ifs <;> rfl

/-! ## The walk, one descriptor at a time (R210 to R221) -/

section
variable {s : State} {va : Word} {n : AccSize} {priv isRead : Bool}

theorem translation_misaligned (hm : s.mmuOn = true) (ha : s.alignCheck = true) (h : va.toNat % n.bytes ≠ 0) :
    s.translation va n priv isRead = .fault .align none := by
  have hn : n.aligned va = false := by rwa [← Bool.not_eq_true, AccSize.aligned_iff]
  simp [State.translation, hm, ha, hn]

theorem translation_walk (hm : s.mmuOn = true) (ha : (s.alignCheck && !n.aligned va) = false) :
    s.translation va n priv isRead = s.walk va priv isRead := by
  simp [State.translation, hm, ha]

theorem walk_unread (hb : tryRead s .word (l1Address s.ttb va) = false) :
    s.walk va priv isRead = .fault .extL1 none := by
  simp [State.walk, hb]

section
variable (hb : tryRead s .word (l1Address s.ttb va) = true)
include hb

theorem walk_unmapped (h : (s.mem.read .word (l1Address s.ttb va)).extractLsb' 0 2 = 0b00#2) :
    s.walk va priv isRead = .fault .transSection none := by
  simp [State.walk, hb, h]

theorem walk_section (h : (s.mem.read .word (l1Address s.ttb va)).extractLsb' 0 2 = 0b10#2) :
    s.walk va priv isRead
      = s.checkAccess ((s.mem.read .word (l1Address s.ttb va)).extractLsb' 5 4)
          ((s.mem.read .word (l1Address s.ttb va)).extractLsb' 10 2) priv isRead .domainSection .permSection
          (joinAddress (s.mem.read .word (l1Address s.ttb va)) va 20) := by
  simp [State.walk, hb, h]

theorem walk_page {fine : Bool}
    (h : (s.mem.read .word (l1Address s.ttb va)).extractLsb' 0 2 = if fine then 0b11#2 else 0b01#2) :
    s.walk va priv isRead = s.walkPage va (s.mem.read .word (l1Address s.ttb va)) fine priv isRead := by
  cases fine <;> simp [State.walk, hb, h]

end

/-- The second-level descriptor's address in either kind of table (R216). -/
def l2Address (d1 va : Word) (fine : Bool) : Word := if fine then fineAddress d1 va else coarseAddress d1 va

section
variable {d1 : Word} {fine : Bool}

theorem walkPage_unread (hb : tryRead s .word (l2Address d1 va fine) = false) :
    s.walkPage va d1 fine priv isRead = .fault .extL2 (some (d1.extractLsb' 5 4)) := by
  unfold l2Address at hb
  simp [State.walkPage, hb]

/-- A page's domain, which the first level gives, and its permission (R221). -/
def State.checkPage (s : State) (d1 : Word) (priv isRead : Bool) (ap : BitVec 2) (pa : Word) : Translation :=
  s.checkAccess (d1.extractLsb' 5 4) ap priv isRead .domainPage .permPage pa

variable {d2 : Word} (hb : tryRead s .word (l2Address d1 va fine) = true)
  (hd : s.mem.read .word (l2Address d1 va fine) = d2)
include hb hd

theorem walkPage_unmapped (h : d2.extractLsb' 0 2 = 0b00#2) :
    s.walkPage va d1 fine priv isRead = .fault .transPage (some (d1.extractLsb' 5 4)) := by
  subst hd
  unfold l2Address at hb h
  simp [State.walkPage, hb, h]

theorem walkPage_large (h : d2.extractLsb' 0 2 = 0b01#2) :
    s.walkPage va d1 fine priv isRead
      = if fine then .refused (.unsupported .largePageInFineTable)
        else s.checkPage d1 priv isRead (subPageAp d2 (va.extractLsb' 14 2)) (joinAddress d2 va 16) := by
  subst hd
  unfold l2Address at hb h ⊢
  simp [State.walkPage, State.checkPage, hb, h]

theorem walkPage_small (h : d2.extractLsb' 0 2 = 0b10#2) :
    s.walkPage va d1 fine priv isRead
      = s.checkPage d1 priv isRead (subPageAp d2 (va.extractLsb' 10 2)) (joinAddress d2 va 12) := by
  subst hd
  unfold l2Address at hb h ⊢
  simp [State.walkPage, State.checkPage, hb, h]

theorem walkPage_tiny (h : d2.extractLsb' 0 2 = 0b11#2) :
    s.walkPage va d1 fine priv isRead
      = if fine then s.checkPage d1 priv isRead (d2.extractLsb' 4 2) (joinAddress d2 va 10)
        else .refused (.unsupported .tinyPageInCoarseTable) := by
  subst hd
  unfold l2Address at hb h ⊢
  simp [State.walkPage, State.checkPage, hb, h]

end
end

/-! ## The statements -/

/-- Settles O51. -/
theorem translationStarts : Obligations.TranslationStarts := by
  unfold Obligations.TranslationStarts
  intro s va n priv isRead
  refine ⟨fun hm => translation_off hm va n priv isRead, fun hm =>
    ⟨fun ha h => translation_misaligned hm ha h, fun ha => ?_⟩⟩
  have hal : (s.alignCheck && !n.aligned va) = false := by
    rcases ha with ha | ha
    · rw [show s.alignCheck = false from ha, Bool.false_and]
    · simp [(n.aligned_iff va).2 ha]
  rw [translation_walk hm hal, ← l1Address_eq]
  exact ⟨walk_unread, walk_unmapped⟩

/-- Settles O52. -/
theorem sectionTranslation : Obligations.SectionTranslation := by
  unfold Obligations.SectionTranslation
  intro s va n priv isRead hm ha hb d1 dom ctl pa hsec
  have htr : s.translation va n priv isRead
      = if ctl = 0b00#2 ∨ ctl = 0b10#2 then .fault .domainSection (some dom)
        else if ctl = 0b11#2 then .ok pa
        else s.checkPermission dom (d1.extractLsb' 10 2) priv isRead .permSection pa := by
    rw [translation_walk hm ha, walk_section hb hsec, joinAddress_eq (by omega), checkAccess_eq]
  refine ⟨fun h => htr.trans (if_pos h), fun h => htr.trans ?_, fun h => htr.trans ?_⟩
  · rw [h]
    rfl
  · rw [h]
    rfl

/-- Settles O53. -/
theorem pageTranslation : Obligations.PageTranslation := by
  unfold Obligations.PageTranslation
  intro s va n priv isRead fine hm ha hb d1 dom l2 d2 page sub ctl out hpage
  have hl2 : l2Address d1 va fine = l2 := by
    unfold l2Address
    rw [fineAddress_eq, coarseAddress_eq]
  have hd : s.mem.read .word (l2Address d1 va fine) = d2 := by rw [hl2]
  have hout (ap : BitVec 2) (pa : Word) : s.checkPage d1 priv isRead ap pa = out ap pa := checkAccess_eq ..
  rw [translation_walk hm ha, walk_page hb hpage, ← hl2]
  refine ⟨walkPage_unread, fun hb2 => ⟨walkPage_unmapped hb2 hd, fun h => ?_, fun h => ?_, fun h => ?_⟩⟩
  · rw [walkPage_large hb2 hd h, subPageAp_eq, joinAddress_eq (by omega), hout]
  · rw [walkPage_small hb2 hd h, subPageAp_eq, joinAddress_eq (by omega), hout]
  · rw [walkPage_tiny hb2 hd h, joinAddress_eq (by omega), hout]

end Sys2Proof.Machine
end

section
/-! PROOFS. LDRD and STRD (O21, O22). -/

namespace Sys2Proof.Machine

/-! ## The checks of a doubleword transfer (R306, R513, R518, R519) -/

/-- The registers that stop a doubleword transfer: the rule's own test of the pair, and what addressing mode 3 adds. -/
def pairRestricted (p w : Bool) (rn rd : RegNum) (off : Offset3) (noSuchPair : Bool) : Bool :=
  noSuchPair || offset3UsesPc off || mode3Restricted p w rn rd || pairWriteBack p w rn rd

section
variable {p w noSuchPair : Bool} {rn rd : RegNum} {off : Offset3}

theorem mode3Pair_ok (hsb : offset3SbOk off = true) (h : pairRestricted p w rn rd off noSuchPair = false) (u : Bool)
    (s : State) : mode3Pair p u w rn rd off noSuchPair s = .ok (s.mode3Address p u w rn off, s) := by
  simp only [pairRestricted, Bool.or_eq_false_iff] at h
  obtain ⟨⟨⟨hn, hpc⟩, hm⟩, hw⟩ := h
  simp [mode3Pair, mode3Checked, act_bind, hsb, hn, hpc, hm, hw]

theorem mode3Pair_shouldBe (hsb : offset3SbOk off = false) (u : Bool) (s : State) :
    mode3Pair p u w rn rd off noSuchPair s = .error (.refused (.unpredictable .shouldBeField)) := by
  simp [mode3Pair, hsb]

theorem mode3Pair_stops (h : offset3SbOk off = false ∨ pairRestricted p w rn rd off noSuchPair = true) (u : Bool)
    (s : State) :
    ∃ why, mode3Pair p u w rn rd off noSuchPair s = .error (.refused (.unpredictable why)) := by
  by_cases hsb : offset3SbOk off = false
  · exact ⟨_, mode3Pair_shouldBe hsb u s⟩
  replace h := h.resolve_left hsb
  rw [Bool.not_eq_false] at hsb
  by_cases hn : noSuchPair = true
  · exact ⟨.doublewordRegisters, by simp [mode3Pair, act_bind, hsb, hn]⟩
  by_cases hpc : offset3UsesPc off = true
  · exact ⟨.r15Offset, by simp [mode3Pair, mode3Checked, act_bind, hsb, hn, hpc]⟩
  have hm : (mode3Restricted p w rn rd || pairWriteBack p w rn rd) = true := by
    simpa [pairRestricted, hn, hpc] using h
  exact ⟨.mode3Restriction, by simp [mode3Pair, mode3Checked, act_bind, hsb, hn, hpc, hm]⟩

end

/-! ## The alignment of a doubleword (R207, log entry 21) -/

section
variable {s : State} {a : Word}

theorem doublewordCheck_aligned (h : a.toNat % 8 = 0) : doublewordCheck a s = .ok ((), s) := by
  simp [doublewordCheck, oddDoubleword_eq, h]

theorem doublewordCheck_odd (h : a.toNat % 8 ≠ 0)
    (hg : s.mmuOn = true → s.alignCheck = true → a.toNat % 4 = 0) :
    doublewordCheck a s = .error (.refused (.unpredictable .misalignedDoubleword)) := by
  have hodd : s.oddDoubleword a = true := by
    rw [oddDoubleword_eq, decide_eq_true_iff]
    exact ⟨h, fun ⟨hm, ha, h4⟩ => h4 (hg hm ha)⟩
  simp [doublewordCheck, hodd]

/-- The check leaves to the first access what the MMU's alignment check takes. -/
theorem doublewordCheck_faulting (hm : s.mmuOn = true) (ha : s.alignCheck = true) (h : a.toNat % 4 ≠ 0) :
    doublewordCheck a s = .ok ((), s) := by
  simp [doublewordCheck, oddDoubleword_eq, hm, ha, h]

theorem abortsAt_misaligned (hm : s.mmuOn = true) (ha : s.alignCheck = true) (h : a.toNat % 4 ≠ 0)
    (priv isRead : Bool) :
    s.abortsAt a .word priv isRead ((s.recordFault a .align none).request .dataAbort .mmuFault) :=
  .inl ⟨.align, none, translation_misaligned hm ha h, rfl⟩

end

/-! ## Both instructions: the checks, then the accesses -/

/-- The checks that LDRD and STRD share, then the accesses at the checked address. -/
def doubleword (p u w : Bool) (rn rd : RegNum) (off : Offset3) (noSuchPair : Bool) (accesses : Address → Act Unit) :
    Act Unit := do
  let a ← mode3Pair p u w rn rd off noSuchPair
  doublewordCheck a.ea
  accesses a

/-- The accesses and write-backs of LDRD (R518). -/
def loadDoubleword (rn rd : RegNum) (a : Address) : Act Unit := do
  let priv ← look State.privileged
  let lo ← memRead a.ea .word priv
  let hi ← memRead (a.ea + 4#32) .word priv
  writeBackBase rn a.writeBack
  writeReg rd lo
  writeReg (rd + 1#4) hi

/-- The accesses and the write-back of STRD (R519). -/
def storeDoubleword (rn rd : RegNum) (a : Address) : Act Unit := do
  storeReg rd .word a.ea false
  storeReg (rd + 1#4) .word (a.ea + 4#32) false
  writeBackBase rn a.writeBack

section
variable {s : State} {c : Cond} (hc : condPassed c s.cpsr = true) (p u w : Bool) (rn rd : RegNum) (off : Offset3)
include hc

theorem exec_armLdrd :
    exec (.armLdrd c p u w rn rd off) s
      = outcomeOf (doubleword p u w rn rd off (noPair rd || offset3InPair rd off) (loadDoubleword rn rd) s) :=
  (runAct_outcomeOf _ s).trans (congrArg outcomeOf (whenPassed_passed hc _))

theorem exec_armStrd :
    exec (.armStrd c p u w rn rd off) s
      = outcomeOf (doubleword p u w rn rd off (noPair rd) (storeDoubleword rn rd) s) :=
  (runAct_outcomeOf _ s).trans (congrArg outcomeOf (whenPassed_passed hc _))

end

section
variable {s : State} {p u w noSuchPair : Bool} {rn rd : RegNum} {off : Offset3} {accesses : Address → Act Unit}

theorem doubleword_shouldBe (hsb : offset3SbOk off = false) :
    outcomeOf (doubleword p u w rn rd off noSuchPair accesses s) = .refused (.unpredictable .shouldBeField) := by
  rw [doubleword, act_bind_error (mode3Pair_shouldBe hsb u s), outcomeOf_refused]

theorem doubleword_stops (h : offset3SbOk off = false ∨ pairRestricted p w rn rd off noSuchPair = true) :
    ∃ why, outcomeOf (doubleword p u w rn rd off noSuchPair accesses s) = .refused (.unpredictable why) := by
  obtain ⟨why, hw⟩ := mode3Pair_stops h u s
  exact ⟨why, by rw [doubleword, act_bind_error hw, outcomeOf_refused]⟩

variable (hsb : offset3SbOk off = true) (hr : pairRestricted p w rn rd off noSuchPair = false)
include hsb hr

theorem doubleword_odd (h : (s.mode3Address p u w rn off).ea.toNat % 8 ≠ 0)
    (hg : s.mmuOn = true → s.alignCheck = true → (s.mode3Address p u w rn off).ea.toNat % 4 = 0) :
    outcomeOf (doubleword p u w rn rd off noSuchPair accesses s) = .refused (.unpredictable .misalignedDoubleword) := by
  rw [doubleword, act_bind_ok (mode3Pair_ok hsb hr u s), act_bind_error (doublewordCheck_odd h hg), outcomeOf_refused]

theorem doubleword_aligned (h : (s.mode3Address p u w rn off).ea.toNat % 8 = 0) :
    doubleword p u w rn rd off noSuchPair accesses s = accesses (s.mode3Address p u w rn off) s := by
  rw [doubleword, act_bind_ok (mode3Pair_ok hsb hr u s), act_bind_ok (doublewordCheck_aligned h)]

theorem doubleword_faulting (hm : s.mmuOn = true) (ha : s.alignCheck = true)
    (h : (s.mode3Address p u w rn off).ea.toNat % 4 ≠ 0) :
    doubleword p u w rn rd off noSuchPair accesses s = accesses (s.mode3Address p u w rn off) s := by
  rw [doubleword, act_bind_ok (mode3Pair_ok hsb hr u s), act_bind_ok (doublewordCheck_faulting hm ha h)]

end

/-! ## LDRD (R518) -/

section
variable {s t : State} {rn rd : RegNum} {a : Address} {pa pa2 : Word}

theorem loadDoubleword_ok (h : s.loadsAt a.ea .word s.privileged pa)
    (h2 : s.loadsAt (a.ea + 4#32) .word s.privileged pa2) :
    loadDoubleword rn rd a s
      = .ok ((), ((s.writtenBack rn a.writeBack).setReg rd (s.mem.read .word (AccSize.word.align pa))).setReg
          (rd + 1#4) (s.mem.read .word (AccSize.word.align pa2))) := by
  rw [loadDoubleword, act_bind_ok (look_apply _ s), act_bind_ok (memRead_ok h), act_bind_ok (memRead_ok h2),
    act_bind_ok (writeBackBase_apply _ _ s), act_bind_ok (writeReg_apply _ _ _), writeReg_apply]

theorem loadDoubleword_abort_first (hf : s.faultFlag = false) (hp : s.pending = Pending.empty)
    (h : s.abortsAt a.ea .word s.privileged true t) : loadDoubleword rn rd a s = .error (.raised t) := by
  rw [loadDoubleword, act_bind_ok (look_apply _ s), act_bind_error (memRead_abort hf hp h)]

theorem loadDoubleword_abort_second (h : s.loadsAt a.ea .word s.privileged pa) (hp : s.pending = Pending.empty)
    (h2 : s.abortsAt (a.ea + 4#32) .word s.privileged true t) : loadDoubleword rn rd a s = .error (.raised t) := by
  rw [loadDoubleword, act_bind_ok (look_apply _ s), act_bind_ok (memRead_ok h),
    act_bind_error (memRead_abort h.1 hp h2)]

end

/-- Settles O21. -/
theorem loadDoubleResult : Obligations.LoadDoubleResult := by
  unfold Obligations.LoadDoubleResult
  intro s c p u w rn rd off pa pa2 hc
  rw [stopsUnpredictable, exec_armLdrd hc]
  refine ⟨fun heven h14 hin hpc hsb hm hw => ?_, doubleword_shouldBe, fun h => ?_⟩
  · have hr : pairRestricted p w rn rd off (noPair rd || offset3InPair rd off) = false := by
      simp [pairRestricted, noPair_eq, heven, h14, hin, hpc, hm, hw]
    refine ⟨fun h8 hl => ⟨fun t hp h2 => ?_, fun h2 => ?_⟩, doubleword_odd hsb hr, fun h4 hmmu hal hf hp => ?_,
      fun t h8 hf hp h => ?_⟩
    · rw [doubleword_aligned hsb hr h8, loadDoubleword_abort_second hl hp h2, outcomeOf_raised]
    · rw [doubleword_aligned hsb hr h8, loadDoubleword_ok hl h2, outcomeOf_ok]
      rfl
    · rw [doubleword_faulting hsb hr hmmu hal h4,
        loadDoubleword_abort_first hf hp (abortsAt_misaligned hmmu hal h4 _ _), outcomeOf_raised]
    · rw [doubleword_aligned hsb hr h8, loadDoubleword_abort_first hf hp h, outcomeOf_raised]
  · refine doubleword_stops ?_
    simp only [pairRestricted, noPair_eq, Bool.or_eq_true, decide_eq_true_eq]
    tauto

/-! ## STRD (R519) -/

/-- A store to an aligned unit leaves what storedAt says. -/
theorem storedAt_store {s : State} (h : s.mem.wf = true) (n : AccSize) (pa v : Word) :
    storedAt s (s.store n (n.align pa) v) n pa v :=
  ⟨fun k hk => readByte_store_inside n pa v k h hk, fun a ha => readByte_store_outside n pa v a h ha, rfl⟩

section
variable {s v : State} {rn rd : RegNum} {n : AccSize} {a : Word} {pa : Word}

theorem storeReg_ok (h : s.storesAt a n s.privileged pa) :
    storeReg rd n a false s = .ok ((), s.store n (n.align pa) (s.reg rd)) := by
  rw [storeReg, act_bind_ok (look_apply _ s), act_bind_ok (readReg_apply rd s)]
  exact memWrite_ok h

theorem storeReg_abort (hf : s.faultFlag = false) (hp : s.pending = Pending.empty)
    (h : s.abortsAt a n s.privileged false v) : storeReg rd n a false s = .error (.raised v) := by
  rw [storeReg, act_bind_ok (look_apply _ s), act_bind_ok (readReg_apply rd s)]
  exact memWrite_abort hf hp h

end

section
variable {s t v : State} {rn rd : RegNum} {a : Address}

theorem storeDoubleword_abort_first (hf : s.faultFlag = false) (hp : s.pending = Pending.empty)
    (h : s.abortsAt a.ea .word s.privileged false v) : storeDoubleword rn rd a s = .error (.raised v) := by
  rw [storeDoubleword, act_bind_error (storeReg_abort hf hp h)]

variable (h : storeReg rd .word a.ea false s = .ok ((), t))
include h

theorem storeDoubleword_ok (h2 : storeReg (rd + 1#4) .word (a.ea + 4#32) false t = .ok ((), v)) :
    storeDoubleword rn rd a s = .ok ((), v.writtenBack rn a.writeBack) := by
  rw [storeDoubleword, act_bind_ok h, act_bind_ok h2, writeBackBase_apply]

theorem storeDoubleword_abort_second (h2 : storeReg (rd + 1#4) .word (a.ea + 4#32) false t = .error (.raised v)) :
    storeDoubleword rn rd a s = .error (.raised v) := by
  rw [storeDoubleword, act_bind_ok h, act_bind_error h2]

end

/-- Settles O22: the second word's address is translated in the state that holds the first word. -/
theorem storeDoubleResult : Obligations.StoreDoubleResult := by
  unfold Obligations.StoreDoubleResult
  intro s c p u w rn rd off pa pa2 st dom hc hwf
  rw [stopsUnpredictable, exec_armStrd hc]
  refine ⟨fun heven h14 hpc hsb hm hw => ?_, doubleword_shouldBe, fun h => ?_⟩
  · have hr : pairRestricted p w rn rd off (noPair rd) = false := by
      simp [pairRestricted, noPair_eq, heven, h14, hpc, hm, hw]
    refine ⟨doubleword_odd hsb hr, fun h4 hmmu hal hf hp => ?_, fun v h8 hf hp h => ?_, fun h8 hs => ?_⟩
    · rw [doubleword_faulting hsb hr hmmu hal h4,
        storeDoubleword_abort_first hf hp (abortsAt_misaligned hmmu hal h4 _ _), outcomeOf_raised]
    · rw [doubleword_aligned hsb hr h8, storeDoubleword_abort_first hf hp h, outcomeOf_raised]
    · rw [doubleword_aligned hsb hr h8]
      have hfirst := storeReg_ok (rd := rd) hs
      have habort : ∀ v, (s.store .word (AccSize.word.align pa) (s.reg rd)).abortsAt
            ((s.mode3Address p u w rn off).ea + 4#32) .word s.privileged false v → s.pending = Pending.empty →
          outcomeOf (storeDoubleword rn rd (s.mode3Address p u w rn off) s) = .next v := fun v h2 hp => by
        rw [storeDoubleword_abort_second hfirst (storeReg_abort hs.1 hp h2), outcomeOf_raised]
      refine ⟨_, storedAt_store hwf .word pa (s.reg rd), fun h2 => ⟨_, storedAt_store ?_ .word pa2 _, ?_⟩,
        fun h2 hp => habort _ (.inl ⟨st, dom, h2, rfl⟩) hp, habort⟩
      · exact Memory.wf_write .word pa (s.reg rd) hwf
      · rw [storeDoubleword_ok hfirst (storeReg_ok h2), outcomeOf_ok]
        rfl
  · refine doubleword_stops ?_
    simp only [pairRestricted, noPair_eq, Bool.or_eq_true, decide_eq_true_eq]
    tauto

end Sys2Proof.Machine
end

section
/-! PROOFS. How the fields of an encoded word read back, and when words with the same fields are equal (O1, O2). -/

namespace Sys2Proof

/-! ## Placed fields (R310 to R351) -/

@[simp] theorem getElem_place_off {n lo k : Nat} (x : BitVec k) {i : Nat} (hi : i < n) (h : i < lo ∨ lo + k ≤ i) :
    (place n lo x)[i] = false := by
  rw [getElem_place x i hi]
  rcases h with h | h
  · simp [show ¬ lo ≤ i by omega]
  · simp [BitVec.getLsbD_of_ge x (i - lo) (by omega)]

@[simp] theorem getElem_placeBit {n lo : Nat} (b : Bool) (h : lo < n) : (placeBit n lo b)[lo] = b := by
  simp [placeBit, getElem_place]

@[simp] theorem getElem_placeBit_off {n lo : Nat} (b : Bool) {i : Nat} (hi : i < n) (h : i < lo ∨ lo < i) :
    (placeBit n lo b)[i] = false :=
  getElem_place_off _ hi (by omega)

@[simp] theorem extract_placeBit_off {n lo s l : Nat} (b : Bool) (h : lo < s ∨ s + l ≤ lo) :
    (placeBit n lo b).extractLsb' s l = 0#l :=
  extract_place_off _ (by omega)

/-- A part of a placed field. -/
@[simp] theorem extract_place_within {n lo k s l : Nat} (x : BitVec k) (h : lo ≤ s ∧ s + l ≤ lo + k ∧ lo + k ≤ n) :
    (place n lo x).extractLsb' s l = x.extractLsb' (s - lo) l := by
  apply BitVec.eq_of_getLsbD_eq
  intro i hi
  rw [BitVec.getLsbD_extractLsb', BitVec.getLsbD_extractLsb', getLsbD_place]
  simp [hi, show s + i < n by omega, show lo ≤ s + i by omega, show s + i - lo = s - lo + i by omega]

/-! ## Parts of a known field -/

theorem extract_within {n lo k s l : Nat} {w : BitVec n} {v : BitVec k} (hv : w.extractLsb' lo k = v)
    (h : lo ≤ s ∧ s + l ≤ lo + k) : w.extractLsb' s l = v.extractLsb' (s - lo) l := by
  apply BitVec.eq_of_getLsbD_eq
  intro i hi
  rw [← hv, BitVec.getLsbD_extractLsb', BitVec.getLsbD_extractLsb', BitVec.getLsbD_extractLsb']
  simp [hi, show s - lo + i < k by omega, show lo + (s - lo + i) = s + i by omega]

theorem getLsbD_of_extract {n lo k : Nat} {w : BitVec n} {v : BitVec k} (hv : w.extractLsb' lo k = v) {i : Nat}
    (h : lo ≤ i ∧ i < lo + k) : w.getLsbD i = v.getLsbD (i - lo) := by
  rw [← hv, BitVec.getLsbD_extractLsb']
  simp [show i - lo < k by omega, show lo + (i - lo) = i by omega]

theorem getElem_of_extract {n i : Nat} {x : BitVec n} (hi : i < n) (h : x.extractLsb' i 1 = 0#1) : x[i] = false := by
  simpa [hi] using getLsbD_of_extract h (i := i) (by omega)

/-- A field of one bit. -/
@[simp] theorem extract_one {n : Nat} (x : BitVec n) {i : Nat} (h : i < n) :
    x.extractLsb' i 1 = BitVec.ofBool x[i] := by
  apply BitVec.eq_of_getLsbD_eq
  intro j hj
  obtain rfl : j = 0 := by omega
  simp [BitVec.getLsbD_eq_getElem, h]

/-- A field and the bit above it. -/
theorem extract_succ {n : Nat} (w : BitVec n) (lo k : Nat) :
    w.extractLsb' lo (k + 1) = BitVec.cons (w.getLsbD (lo + k)) (w.extractLsb' lo k) := by
  apply BitVec.eq_of_getLsbD_eq
  intro i hi
  rw [BitVec.getLsbD_extractLsb', BitVec.getLsbD_cons, BitVec.getLsbD_extractLsb']
  split
  · next h => subst h; simp
  · simp [hi, show i < k by omega]

/-! ## Words with the same fields -/

/-- The words a and b have the same fields, of the given widths and one above the other from bit lo up. -/
@[simp] def agreeOn {n : Nat} (a b : BitVec n) : Nat → List Nat → Prop
  | _, [] => True
  | lo, k :: ks => a.extractLsb' lo k = b.extractLsb' lo k ∧ agreeOn a b (lo + k) ks

theorem getLsbD_of_agreeOn {n : Nat} {a b : BitVec n} {ks : List Nat} {lo i : Nat} (h : agreeOn a b lo ks)
    (hlo : lo ≤ i) (hi : i < lo + ks.sum) : a.getLsbD i = b.getLsbD i := by
  induction ks generalizing lo with
  | nil => simp at hi; omega
  | cons k ks ih =>
    obtain ⟨hk, hks⟩ := h
    rw [List.sum_cons] at hi
    by_cases hik : i < lo + k
    · have := congrArg (·.getLsbD (i - lo)) hk
      simpa [show i - lo < k by omega, show lo + (i - lo) = i by omega] using this
    · exact ih hks (by omega) (by omega)

/-- Fields that agree one above the other agree as one field. -/
theorem extract_eq_of_agreeOn {n l lo : Nat} {a b : BitVec n} (ks : List Nat) (hl : ks.sum = l)
    (h : agreeOn a b lo ks) : a.extractLsb' lo l = b.extractLsb' lo l := by
  apply BitVec.eq_of_getLsbD_eq
  intro i hi
  rw [BitVec.getLsbD_extractLsb', BitVec.getLsbD_extractLsb', getLsbD_of_agreeOn h (by omega) (by omega)]

/-- Words whose fields agree from end to end are equal. -/
theorem eq_of_agreeOn {n : Nat} {a b : BitVec n} (ks : List Nat) (hn : ks.sum = n) (h : agreeOn a b 0 ks) : a = b :=
  BitVec.eq_of_getLsbD_eq fun i hi => getLsbD_of_agreeOn h (Nat.zero_le i) (by omega)

/-! ## The last branch of a case distinction on a field -/

theorem eq_three_of_ne {k : BitVec 2} (h0 : k ≠ 0#2) (h1 : k ≠ 1#2) (h2 : k ≠ 2#2) : k = 3#2 := by bv_omega

theorem eq_seven_of_ne {k : BitVec 3} (h0 : k ≠ 0#3) (h1 : k ≠ 1#3) (h2 : k ≠ 2#3) (h3 : k ≠ 3#3) (h4 : k ≠ 4#3)
    (h5 : k ≠ 5#3) (h6 : k ≠ 6#3) : k = 7#3 := by bv_omega

/-! ## The operands' bits (R311) -/

@[simp] theorem extract_encodeOp2_off (op2 : Operand2) {s l : Nat} (h : 12 ≤ s ∧ s + l ≤ 25 ∨ 26 ≤ s) :
    (encodeOp2 op2).extractLsb' s l = 0#l := by
  have hbit : (0x02000000#32).extractLsb' s l = 0#l := extract_place_off (n := 32) (lo := 25) 1#1 (by omega)
  have h4 : (0x00000010#32).extractLsb' s l = 0#l := extract_place_off (n := 32) (lo := 4) 1#1 (by omega)
  cases op2 <;> simp (disch := omega) [encodeOp2, BitVec.extractLsb'_or, extract_place_off, hbit, h4]

@[simp] theorem extract_encodeOffset2_off (off : Offset2) {s l : Nat} (h : 12 ≤ s ∧ s + l ≤ 25 ∨ 26 ≤ s) :
    (encodeOffset2 off).extractLsb' s l = 0#l := by
  have hbit : (0x02000000#32).extractLsb' s l = 0#l := extract_place_off (n := 32) (lo := 25) 1#1 (by omega)
  cases off <;> simp (disch := omega) [encodeOffset2, BitVec.extractLsb'_or, extract_place_off, hbit]

@[simp] theorem extract_encodeOffset3_off (off : Offset3) {s l : Nat}
    (h : 4 ≤ s ∧ s + l ≤ 8 ∨ 12 ≤ s ∧ s + l ≤ 22 ∨ 23 ≤ s) : (encodeOffset3 off).extractLsb' s l = 0#l := by
  have hbit : (0x00400000#32).extractLsb' s l = 0#l := extract_place_off (n := 32) (lo := 22) 1#1 (by omega)
  cases off <;> simp (disch := omega) [encodeOffset3, BitVec.extractLsb'_or, extract_place_off, hbit]

@[simp] theorem getElem_encodeOp2_off (op2 : Operand2) {i : Nat} (hi : i < 32) (h : 12 ≤ i ∧ i < 25 ∨ 26 ≤ i) :
    (encodeOp2 op2)[i] = false := getElem_of_extract hi (extract_encodeOp2_off op2 (by omega))

@[simp] theorem getElem_encodeOffset2_off (off : Offset2) {i : Nat} (hi : i < 32) (h : 12 ≤ i ∧ i < 25 ∨ 26 ≤ i) :
    (encodeOffset2 off)[i] = false := getElem_of_extract hi (extract_encodeOffset2_off off (by omega))

@[simp] theorem getElem_encodeOffset3_off (off : Offset3) {i : Nat} (hi : i < 32)
    (h : 4 ≤ i ∧ i < 8 ∨ 12 ≤ i ∧ i < 22 ∨ 23 ≤ i) : (encodeOffset3 off)[i] = false :=
  getElem_of_extract hi (extract_encodeOffset3_off off (by omega))

section
variable {w : Word}

theorem encodeOp2_decodeImmShift (h4 : w[4] = false) :
    (encodeOp2 (decodeImmShift w)).extractLsb' 0 12 = w.extractLsb' 0 12 := by
  refine extract_eq_of_agreeOn [4, 1, 2, 5] rfl ?_
  simp [decodeImmShift, encodeOp2, BitVec.extractLsb'_or, extract_place_off, h4]

theorem encodeOp2_decodeRegShift (h4 : w[4] = true) (h7 : w[7] = false) :
    (encodeOp2 (decodeRegShift w)).extractLsb' 0 12 = w.extractLsb' 0 12 := by
  refine extract_eq_of_agreeOn [4, 1, 2, 1, 4] rfl ?_
  simp [decodeRegShift, encodeOp2, BitVec.extractLsb'_or, extract_place_off, h4, h7]

theorem encodeOp2_decodeImm : (encodeOp2 (decodeImm w)).extractLsb' 0 12 = w.extractLsb' 0 12 := by
  refine extract_eq_of_agreeOn [8, 4] rfl ?_
  simp [decodeImm, encodeOp2, BitVec.extractLsb'_or, extract_place_off]

theorem encodeOffset2_decodeOffset2 (h : w[25] = true → w[4] = false) :
    (encodeOffset2 (decodeOffset2 w)).extractLsb' 0 12 = w.extractLsb' 0 12 := by
  unfold decodeOffset2
  split
  · next h25 =>
    refine extract_eq_of_agreeOn [4, 1, 2, 5] rfl ?_
    simp [encodeOffset2, BitVec.extractLsb'_or, extract_place_off, h h25]
  · simp [encodeOffset2]

theorem getElem_encodeOffset2_decodeOffset2 : (encodeOffset2 (decodeOffset2 w))[25] = w[25] := by
  unfold decodeOffset2
  rw [BitVec.getLsbD_eq_getElem (by omega)]
  cases w[25] <;> simp [encodeOffset2]

theorem encodeOffset3_decodeOffset3 :
    (encodeOffset3 (decodeOffset3 w)).extractLsb' 0 4 = w.extractLsb' 0 4
      ∧ (encodeOffset3 (decodeOffset3 w)).extractLsb' 8 4 = w.extractLsb' 8 4
      ∧ (encodeOffset3 (decodeOffset3 w))[22] = w[22] := by
  unfold decodeOffset3
  rw [BitVec.getLsbD_eq_getElem (by omega)]
  cases w[22]
  · simp [encodeOffset3, BitVec.extractLsb'_or, extract_place_off]
  · simp [encodeOffset3, BitVec.extractLsb'_or, extract_place_off]
    exact ⟨BitVec.extractLsb'_append_eq_right, BitVec.extractLsb'_append_eq_left⟩

end

end Sys2Proof
end

section
/-! PROOFS. Which words the UNDEFINED rows take (O1, O2). -/

namespace Sys2Proof

/-! ## The ARM table's holes (R355) -/

section
variable (c : Cond) (w v : Word)

theorem decodeDp_ne_undefined (op2 : Operand2) : decodeDp c w op2 ≠ .armUndefined v := by
  unfold decodeDp
  split <;> simp

theorem decodeMulSwap_eq_undefined :
    decodeMulSwap c w = .armUndefined w
      ↔ (w.extractLsb' 22 3 = 0b001#3 ∨ w.extractLsb' 23 2 = 0b11#2
          ∨ w.extractLsb' 23 2 = 0b10#2 ∧ w.extractLsb' 20 2 ≠ 0b00#2) := by
  obtain ⟨op, hop⟩ : ∃ op, w.extractLsb' 21 4 = op := ⟨_, rfl⟩
  rw [extract_within hop (s := 22) (by omega), extract_within hop (s := 23) (by omega), extract_succ w 20 1,
    extract_one w (by omega), getLsbD_of_extract hop (i := 21) (by omega)]
  unfold decodeMulSwap
  rw [hop, BitVec.getLsbD_eq_getElem (by omega)]
  generalize w[20] = sf
  split
  case h_7 | h_8 => cases sf <;> simp; decide
  case h_9 =>
    simp only [true_iff]
    clear hop
    revert op sf
    decide
  all_goals simp

theorem decodeExtra_ne_undefined : decodeExtra c w ≠ .armUndefined v := by
  unfold decodeExtra
  split <;> split <;> simp

theorem miscHole_of_bit7 {w : Word} (h7 : w.getLsbD 7 = true) : miscHole w = false := by
  unfold miscHole
  split
  case h_7 => rfl
  all_goals
    next h =>
    rw [getLsbD_of_extract h (by omega)] at h7
    simp at h7

theorem decodeMisc_eq_undefined : decodeMisc c w = .armUndefined w ↔ miscHole w = true := by
  by_cases h7 : w.getLsbD 7 = true
  · rw [miscHole_of_bit7 h7]
    unfold decodeMisc
    rw [if_pos h7]
    split
    case h_2 => split <;> simp
    all_goals simp
  · have hlow : w.extractLsb' 4 4 = (w.extractLsb' 4 3).setWidth 4 := by
      rw [extract_succ w 4 3]
      simp only [h7]
      generalize w.extractLsb' 4 3 = k
      revert k
      decide
    unfold decodeMisc miscHole
    rw [if_neg h7, hlow]
    generalize w.extractLsb' 4 3 = k
    generalize w.extractLsb' 21 2 = op
    split
    case h_1 => split <;> simp
    case h_2 =>
      split
      case h_3 =>
        simp
        revert op
        decide
      all_goals simp
    case h_3 | h_5 => split <;> simp [*]
    case h_4 => split <;> simp
    case h_6 =>
      simp only [true_iff]
      revert k op
      decide

theorem decodeSingle_ne_undefined : decodeSingle c w ≠ .armUndefined v := by
  unfold decodeSingle
  dsimp only
  split_ifs <;> simp

theorem decodeBlock_ne_undefined : decodeBlock c w ≠ .armUndefined v := by
  unfold decodeBlock
  dsimp only
  split_ifs <;> simp

theorem decodeCopLs_eq_undefined :
    decodeCopLs c w = .armUndefined w
      ↔ (!w.getLsbD 24 && !w.getLsbD 23 && !w.getLsbD 22 && !w.getLsbD 21) = true := by
  unfold decodeCopLs
  dsimp only
  split_ifs <;> grind

theorem decodeCopSwi_ne_undefined : decodeCopSwi c w ≠ .armUndefined v := by
  unfold decodeCopSwi
  dsimp only
  split_ifs <;> simp

theorem decodeCond_eq_undefined : decodeCond c w = .armUndefined w ↔ undefinedCondWord w = true := by
  unfold decodeCond undefinedCondWord
  generalize w.extractLsb' 25 3 = k
  split
  · by_cases h74 : (w.getLsbD 7 && w.getLsbD 4) = true
    · rw [if_pos h74, if_pos h74]
      split
      · next h => simp [h, decodeMulSwap_eq_undefined, or_assoc]
      · next h => simp [h, decodeExtra_ne_undefined]
    · rw [if_neg h74, if_neg h74]
      split
      · next h =>
        rw [decodeMisc_eq_undefined, h]
        exact Iff.rfl
      · next h =>
        rw [Bool.eq_false_iff.2 h]
        split <;> simp [decodeDp_ne_undefined]
  · split
    · next h =>
      rw [h]
      cases w.getLsbD 21 <;> simp
    · next h =>
      rw [Bool.eq_false_iff.2 h]
      simp [decodeDp_ne_undefined]
  · simp [decodeSingle_ne_undefined]
  · cases w.getLsbD 4 <;> simp [decodeSingle_ne_undefined]
  · simp [decodeBlock_ne_undefined]
  · split <;> simp
  · simpa using decodeCopLs_eq_undefined c w
  · simp [decodeCopSwi_ne_undefined, *]

theorem decodeUncond_eq_undefined : decodeUncond w = .armUndefined w ↔ undefinedUncondWord w = true := by
  unfold decodeUncond undefinedUncondWord
  generalize w.extractLsb' 25 3 = k
  dsimp only
  split
  · simp
  · cases w.getLsbD 24 && w.extractLsb' 20 3 == 0b101#3 <;> simp
  · cases w.getLsbD 24 && w.extractLsb' 20 3 == 0b101#3 && !w.getLsbD 4 <;> simp
  · cases !w.getLsbD 24 && !w.getLsbD 23 && !w.getLsbD 21
    · rw [if_neg Bool.false_ne_true]
      split <;> simp
    · simp
  · cases w.getLsbD 24
    · rw [if_neg Bool.false_ne_true]
      split_ifs <;> simp
    · simp
  · simp [*]

/-- The decoder answers UNDEFINED at exactly the words that R355 lists. -/
theorem decodeArm_eq_undefined : decodeArm w = .armUndefined w ↔ undefinedArmWord w = true := by
  unfold decodeArm undefinedArmWord
  split
  · exact decodeUncond_eq_undefined w
  · exact decodeCond_eq_undefined _ w

end

/-! ## The Thumb table's holes (R340, R827) -/

section
variable {h : Half} (v : Half)

theorem decodeThumbAlu_ne_undefined : decodeThumbAlu h ≠ .thumbUndefined v := by
  unfold decodeThumbAlu
  split <;> simp

theorem decodeThumbHi_ne_undefined : decodeThumbHi h ≠ .thumbUndefined v := by
  unfold decodeThumbHi
  dsimp only
  split
  case h_4 => split <;> simp
  all_goals simp

theorem decodeThumbLsReg_ne_undefined : decodeThumbLsReg h ≠ .thumbUndefined v := by
  unfold decodeThumbLsReg
  split <;> simp

theorem decodeThumbMisc_eq_undefined :
    decodeThumbMisc h = .thumbUndefined h
      ↔ (h.extractLsb' 8 4 = 0b0001#4 ∨ h.extractLsb' 9 3 = 0b001#3 ∨ h.extractLsb' 9 3 = 0b011#3
        ∨ h.extractLsb' 9 3 = 0b100#3 ∨ h.extractLsb' 9 3 = 0b101#3 ∨ h.extractLsb' 8 4 = 0b1111#4) := by
  obtain ⟨n, hn⟩ : ∃ n, h.extractLsb' 8 4 = n := ⟨_, rfl⟩
  rw [extract_within hn (s := 9) (by omega)]
  unfold decodeThumbMisc
  rw [hn]
  split
  case h_1 => split <;> simp
  case h_7 =>
    have hall : ∀ n : BitVec 4, (n == 0b0000#4 || n == 0b0100#4 || n == 0b0101#4 || n == 0b1100#4 || n == 0b1101#4
        || n == 0b1110#4 || n == 0b0001#4 || n.extractLsb' 1 3 == 0b001#3 || n.extractLsb' 1 3 == 0b011#3
        || n.extractLsb' 1 3 == 0b100#3 || n.extractLsb' 1 3 == 0b101#3 || n == 0b1111#4) = true := by decide
    have hn := hall n
    simp only [Bool.or_eq_true, beq_iff_eq] at hn
    tauto
  all_goals simp

theorem decodeThumbBCond_eq_undefined :
    decodeThumbBCond h = .thumbUndefined h ↔ h.extractLsb' 8 4 = 0b1110#4 := by
  unfold decodeThumbBCond
  split
  case h_3 hE _ => simpa using hE
  all_goals simp [*]

/-- The decoder answers UNDEFINED at exactly the halfwords that R340 and R827 list, but for the prefixes of 32-bit
instructions, which never reach it (R300). -/
theorem decodeThumb_eq_undefined (hp : isThumb32Prefix h = false) :
    decodeThumb h = .thumbUndefined h ↔ undefinedThumbHalf h = true := by
  obtain ⟨k, hk⟩ : ∃ k, h.extractLsb' 11 5 = k := ⟨_, rfl⟩
  have h8 : h.extractLsb' 8 8 = h.extractLsb' 12 4 ++ h.extractLsb' 8 4 :=
    (BitVec.extractLsb'_append_extractLsb'_eq_extractLsb' (start₁ := 8) (len₁ := 4) (len₂ := 4) rfl).symm
  have hDE : h.extractLsb' 8 8 = 0xDE#8 ↔ h.extractLsb' 12 4 = 0xD#4 ∧ h.extractLsb' 8 4 = 0xE#4 := by
    rw [h8]
    generalize h.extractLsb' 12 4 = t
    generalize h.extractLsb' 8 4 = n
    revert t n
    decide
  have h12 := extract_within hk (s := 12) (l := 4) (by omega)
  unfold undefinedThumbHalf
  simp only [Bool.or_eq_true, Bool.and_eq_true, beq_iff_eq, hDE, h12, or_assoc]
  rw [Laws.FetchLength.prefix_of_top hk] at hp
  unfold decodeThumb
  rw [hk]
  dsimp only
  split
  case h_4 => split <;> simp
  case h_9 => split <;> simp [decodeThumbHi_ne_undefined, decodeThumbAlu_ne_undefined]
  case h_23 | h_24 => simpa using decodeThumbMisc_eq_undefined
  case h_27 | h_28 => simpa using decodeThumbBCond_eq_undefined
  case h_30 =>
    simp only [Bool.or_eq_false_iff, beq_eq_false_iff_ne] at hp
    simp only [imp_false] at *
    bv_omega
  all_goals simp [decodeThumbLsReg_ne_undefined]

end

end Sys2Proof
end

section
/-! PROOFS. Encode, then decode (O1). The lists below are of instructions with the same operands, so that one proof
reads their words. -/

namespace Sys2Proof

/-! ## Conditions (R310, R340) -/

theorem Cond.bits_eq_nv {c : Cond} : c.bits = 0xF#4 ↔ c = .nv := by cases c <;> decide

/-- A well-formed conditional instruction, of either instruction set, does not have the condition 1111. -/
theorem cond_ne_nv {i : Instr} {c : Cond} (h : i.wellFormed = true) (hi : i.condOf = some c) : c ≠ .nv := by
  simp only [Instr.wellFormed, Bool.and_eq_true] at h
  obtain ⟨hc, -⟩ := h
  unfold Instr.condOk at hc
  split at hc
  · cases hi
    simp at hc
    exact hc.2
  · simpa [hi] using hc

theorem formOk_of_wellFormed {i : Instr} (h : i.wellFormed = true) : i.formOk = true := by
  simp only [Instr.wellFormed, Bool.and_eq_true] at h
  exact h.2

theorem decodeArm_of_cond {c : Cond} {w : Word} (hc : c ≠ .nv) (h : w.extractLsb' 28 4 = c.bits) :
    decodeArm w = decodeCond c w := by
  rw [decodeArm, h, if_neg (mt Cond.bits_eq_nv.1 hc), Cond.ofBits_bits]

/-! ## Conditional ARM instructions (R320, R322) -/

section
variable {c : Cond} (hc : c ≠ .nv)
include hc

/-! ### Data processing -/

/-- A word with the format of data processing goes to its opcode's branch with its shifter operand; m holds the
opcode, and of the four tests only the forms with S = 1 are here. -/
theorem decodeArm_encodeDp {m : Word} (hm : place 32 21 (m.extractLsb' 21 4) = m) {sf : Bool}
    (hs : m.extractLsb' 23 2 = 0b10#2 → sf = true) (f19 f15 : BitVec 4) (op2 : Operand2) :
    decodeArm (encodeDp m c sf f19 f15 op2) = decodeDp c (encodeDp m c sf f19 f15 op2) op2 := by
  generalize m.extractLsb' 21 4 = op at hm
  subst hm
  have hmisc : ¬(op.extractLsb' 2 2 = 0b10#2 ∧ sf = false) := by
    rintro ⟨hop, rfl⟩
    simp [hop] at hs
  rw [decodeArm_of_cond hc (by simp [encodeDp, BitVec.extractLsb'_or, extract_place_off])]
  cases op2 with
  | immShift rm kind amt =>
    simp [decodeCond, decodeImmShift, encodeDp, encodeOp2, BitVec.extractLsb'_or, extract_place_off, hmisc]
  | regShift rm kind rs =>
    simp [decodeCond, decodeRegShift, encodeDp, encodeOp2, BitVec.extractLsb'_or, extract_place_off, hmisc]
  | imm rot imm8 =>
    simp [decodeCond, decodeImm, encodeDp, encodeOp2, BitVec.extractLsb'_or, extract_place_off, hmisc]

theorem decode_encode_dp (sf : Bool) (f19 f15 : BitVec 4) (op2 : Operand2) :
    ∀ i ∈ [Instr.armAnd c sf f19 f15 op2, .armEor c sf f19 f15 op2, .armSub c sf f19 f15 op2, .armRsb c sf f19 f15 op2,
      .armAdd c sf f19 f15 op2, .armAdc c sf f19 f15 op2, .armSbc c sf f19 f15 op2, .armRsc c sf f19 f15 op2,
      .armOrr c sf f19 f15 op2, .armMov c sf f19 f15 op2, .armBic c sf f19 f15 op2, .armMvn c sf f19 f15 op2],
      decode (encode i) = .ok i := by
  intro i hi
  fin_cases hi <;> dsimp only [decode, encode] <;> rw [decodeArm_encodeDp hc rfl (by simp)] <;>
    simp [decodeDp, encodeDp, BitVec.extractLsb'_or, extract_place_off]

theorem decode_encode_dpTest (rn sb : BitVec 4) (op2 : Operand2) :
    ∀ i ∈ [Instr.armTst c rn sb op2, .armTeq c rn sb op2, .armCmp c rn sb op2, .armCmn c rn sb op2],
      decode (encode i) = .ok i := by
  intro i hi
  fin_cases hi <;> dsimp only [decode, encode] <;> rw [decodeArm_encodeDp hc rfl (by simp)] <;>
    simp [decodeDp, encodeDp, BitVec.extractLsb'_or, extract_place_off]

/-! ### Multiplies, swaps and the miscellaneous space -/

theorem decode_encode_multiply (sf : Bool) (f19 f15 f11 f3 : BitVec 4) :
    ∀ i ∈ [Instr.armMul c sf f19 f15 f11 f3, .armMla c sf f19 f15 f11 f3, .armUmull c sf f19 f15 f11 f3,
      .armUmlal c sf f19 f15 f11 f3, .armSmull c sf f19 f15 f11 f3, .armSmlal c sf f19 f15 f11 f3],
      decode (encode i) = .ok i := by
  intro i hi
  fin_cases hi <;> simp [decode, encode, decodeArm_of_cond hc, decodeCond, decodeMulSwap, encode4,
    BitVec.extractLsb'_or, extract_place_off]

theorem decode_encode_fourFields (f19 f15 f11 f3 : BitVec 4) :
    ∀ i ∈ [Instr.armSwp c f19 f15 f11 f3, .armSwpb c f19 f15 f11 f3, .armQadd c f19 f15 f11 f3,
      .armQsub c f19 f15 f11 f3, .armQdadd c f19 f15 f11 f3, .armQdsub c f19 f15 f11 f3, .armClz c f19 f15 f11 f3],
      decode (encode i) = .ok i := by
  intro i hi
  fin_cases hi <;> simp [decode, encode, decodeArm_of_cond hc, decodeCond, decodeMulSwap, decodeMisc, encode4,
    BitVec.extractLsb'_or, extract_place_off]

theorem decode_encode_dspXy (f19 f15 f11 : BitVec 4) (y x : Bool) (f3 : BitVec 4) :
    ∀ i ∈ [Instr.armSmlaxy c f19 f15 f11 y x f3, .armSmlalxy c f19 f15 f11 y x f3, .armSmulxy c f19 f15 f11 y x f3],
      decode (encode i) = .ok i := by
  intro i hi
  fin_cases hi <;> simp [decode, encode, decodeArm_of_cond hc, decodeCond, decodeMisc, encode4,
    BitVec.extractLsb'_or, extract_place_off]

theorem decode_encode_dspY (f19 f15 f11 : BitVec 4) (y : Bool) (f3 : BitVec 4) :
    ∀ i ∈ [Instr.armSmlawy c f19 f15 f11 y f3, .armSmulwy c f19 f15 f11 y f3], decode (encode i) = .ok i := by
  intro i hi
  fin_cases hi <;> simp [decode, encode, decodeArm_of_cond hc, decodeCond, decodeMisc, encode4,
    BitVec.extractLsb'_or, extract_place_off]

theorem decode_encode_exchange (sb : BitVec 12) (rm : RegNum) :
    ∀ i ∈ [Instr.armBx c sb rm, .armBlxReg c sb rm, .armBkpt c sb rm], decode (encode i) = .ok i := by
  intro i hi
  fin_cases hi <;> simp [decode, encode, decodeArm_of_cond hc, decodeCond, decodeMisc,
    BitVec.extractLsb'_or, extract_place_off]

theorem decode_encode_armMrs (r : Bool) (sb19 : BitVec 4) (rd : RegNum) (sb11 sb3 : BitVec 4) :
    decode (encode (.armMrs c r sb19 rd sb11 sb3)) = .ok (.armMrs c r sb19 rd sb11 sb3) := by
  simp [decode, encode, decodeArm_of_cond hc, decodeCond, decodeMisc, encode4,
    BitVec.extractLsb'_or, extract_place_off]

theorem decode_encode_armMsrReg (r : Bool) (mask : BitVec 4) (sb : BitVec 8) (rm : RegNum) :
    decode (encode (.armMsrReg c r mask sb rm)) = .ok (.armMsrReg c r mask sb rm) := by
  simp [decode, encode, decodeArm_of_cond hc, decodeCond, decodeMisc, BitVec.extractLsb'_or, extract_place_off]

theorem decode_encode_armMsrImm (r : Bool) (mask sb rot : BitVec 4) (imm8 : BitVec 8) :
    decode (encode (.armMsrImm c r mask sb rot imm8)) = .ok (.armMsrImm c r mask sb rot imm8) := by
  simp [decode, encode, decodeArm_of_cond hc, decodeCond, BitVec.extractLsb'_or, extract_place_off]

/-! ### Loads and stores -/

omit hc in
theorem decodeOffset2_encodeSingle {m : Word} (h25 : m[25] = false) (hlo : m.extractLsb' 0 12 = 0#12) (u : Bool)
    (rn rd : RegNum) (off : Offset2) : decodeOffset2 (encodeSingle m c u rn rd off) = off := by
  have h0 := extract_within hlo (s := 0) (l := 4) (by omega)
  have h5 := extract_within hlo (s := 5) (l := 2) (by omega)
  have h7 := extract_within hlo (s := 7) (l := 5) (by omega)
  cases off <;> simp [decodeOffset2, encodeSingle, encodeOffset2, BitVec.extractLsb'_or, extract_place_off, *]

/-- The register form's bit 4 keeps it out of the undefined space of R355. -/
theorem decodeArm_encodeSingle {m : Word} (hhi : m.extractLsb' 25 7 = 0b0000010#7) (h4 : m[4] = false)
    (u : Bool) (rn rd : RegNum) (off : Offset2) :
    decodeArm (encodeSingle m c u rn rd off) = decodeSingle c (encodeSingle m c u rn rd off) := by
  have h28 := extract_within hhi (s := 28) (l := 4) (by omega)
  have h25 := extract_within hhi (s := 25) (l := 3) (by omega)
  rw [decodeArm_of_cond hc (by simp [encodeSingle, BitVec.extractLsb'_or, extract_place_off, h28])]
  cases off <;> simp [decodeCond, encodeSingle, encodeOffset2, BitVec.extractLsb'_or, extract_place_off, *]

theorem decode_encode_single (u : Bool) (ix : Indexing) (rn rd : RegNum) (off : Offset2) :
    ∀ i ∈ [Instr.armLdr c u ix rn rd off, .armStr c u ix rn rd off, .armLdrb c u ix rn rd off,
      .armStrb c u ix rn rd off], decode (encode i) = .ok i := by
  intro i hi
  cases ix <;> fin_cases hi <;> dsimp only [decode, encode, encodeIndexing] <;>
    rw [decodeArm_encodeSingle hc rfl rfl, decodeSingle, decodeOffset2_encodeSingle rfl rfl] <;>
    simp [encodeSingle, BitVec.extractLsb'_or, extract_place_off]

theorem decode_encode_singleT (u : Bool) (rn rd : RegNum) (off : Offset2) :
    ∀ i ∈ [Instr.armLdrt c u rn rd off, .armStrt c u rn rd off, .armLdrbt c u rn rd off, .armStrbt c u rn rd off],
      decode (encode i) = .ok i := by
  intro i hi
  fin_cases hi <;> dsimp only [decode, encode] <;>
    rw [decodeArm_encodeSingle hc rfl rfl, decodeSingle, decodeOffset2_encodeSingle rfl rfl] <;>
    simp [encodeSingle, BitVec.extractLsb'_or, extract_place_off]

omit hc in
theorem decodeOffset3_encodeExtra {m : Word} (h22 : m[22] = false) (h0 : m.extractLsb' 0 4 = 0#4)
    (h8 : m.extractLsb' 8 4 = 0#4) (p u w : Bool) (rn rd : RegNum) (off : Offset3) :
    decodeOffset3 (encodeExtra m c p u w rn rd off) = off := by
  cases off with
  | imm imm8 =>
    simp [decodeOffset3, encodeExtra, encodeOffset3, BitVec.extractLsb'_or, extract_place_off, *]
    exact (BitVec.extractLsb'_append_extractLsb'_eq_extractLsb' rfl).trans BitVec.extractLsb'_eq_self
  | reg sb rm => simp [decodeOffset3, encodeExtra, encodeOffset3, BitVec.extractLsb'_or, extract_place_off, *]

theorem decode_encode_extra (p u w : Bool) (rn rd : RegNum) (off : Offset3) :
    ∀ i ∈ [Instr.armLdrh c p u w rn rd off, .armStrh c p u w rn rd off, .armLdrsb c p u w rn rd off,
      .armLdrsh c p u w rn rd off, .armLdrd c p u w rn rd off, .armStrd c p u w rn rd off],
      decode (encode i) = .ok i := by
  intro i hi
  fin_cases hi <;> dsimp only [decode, encode] <;>
    rw [decodeArm_of_cond hc (by simp [encodeExtra, BitVec.extractLsb'_or, extract_place_off])] <;>
    simp [decodeCond, decodeExtra, decodeOffset3_encodeExtra] <;>
    simp [encodeExtra, BitVec.extractLsb'_or, extract_place_off]

theorem decode_encode_block (p u w : Bool) (rn : RegNum) (list : BitVec 16) :
    ∀ i ∈ [Instr.armLdm1 c p u w rn list, .armStm1 c p u w rn list, .armStm2 c p u w rn list],
      decode (encode i) = .ok i := by
  intro i hi
  fin_cases hi <;> simp [decode, encode, decodeArm_of_cond hc, decodeCond, decodeBlock, encodeBlock,
    BitVec.extractLsb'_or, extract_place_off]

theorem decode_encode_blockSystem (p u w : Bool) (rn : RegNum) (list : BitVec 15) :
    ∀ i ∈ [Instr.armLdm2 c p u w rn list, .armLdm3 c p u w rn list], decode (encode i) = .ok i := by
  intro i hi
  fin_cases hi <;> simp [decode, encode, decodeArm_of_cond hc, decodeCond, decodeBlock, encodeBlock,
    BitVec.extractLsb'_or, extract_place_off]

/-! ### Branches, SWI and coprocessor instructions -/

theorem decode_encode_imm24 (imm24 : BitVec 24) :
    ∀ i ∈ [Instr.armB c imm24, .armBl c imm24, .armSwi c imm24], decode (encode i) = .ok i := by
  intro i hi
  fin_cases hi <;> simp [decode, encode, decodeArm_of_cond hc, decodeCond, decodeCopSwi, encodeImm24,
    BitVec.extractLsb'_or, extract_place_off]

theorem decode_encode_copRt (op1 : BitVec 3) (crn rd cp : BitVec 4) (op2 : BitVec 3) (crm : BitVec 4) :
    ∀ i ∈ [Instr.armMcr c op1 crn rd cp op2 crm, .armMrc c op1 crn rd cp op2 crm], decode (encode i) = .ok i := by
  intro i hi
  fin_cases hi <;> simp [decode, encode, decodeArm_of_cond hc, decodeCond, decodeCopSwi, encodeCopRt,
    BitVec.extractLsb'_or, extract_place_off]

theorem decode_encode_armCdp (op1 crn crd cp : BitVec 4) (op2 : BitVec 3) (crm : BitVec 4) :
    decode (encode (.armCdp c op1 crn crd cp op2 crm)) = .ok (.armCdp c op1 crn crd cp op2 crm) := by
  simp [decode, encode, decodeArm_of_cond hc, decodeCond, decodeCopSwi, encodeCdp,
    BitVec.extractLsb'_or, extract_place_off]

theorem decode_encode_copTwo (rn rd cp op crm : BitVec 4) :
    ∀ i ∈ [Instr.armMcrr c rn rd cp op crm, .armMrrc c rn rd cp op crm], decode (encode i) = .ok i := by
  intro i hi
  fin_cases hi <;> simp [decode, encode, decodeArm_of_cond hc, decodeCond, decodeCopLs, encode4,
    BitVec.extractLsb'_or, extract_place_off]

theorem decode_encode_copLs {p u w : Bool} (h : (p || u || w) = true) (n : Bool) (rn crd cp : BitVec 4)
    (offset8 : BitVec 8) :
    ∀ i ∈ [Instr.armLdc c p u n w rn crd cp offset8, .armStc c p u n w rn crd cp offset8],
      decode (encode i) = .ok i := by
  have hpuw : ¬((p = false ∧ u = false) ∧ w = false) := by simpa [or_iff_not_imp_left] using h
  intro i hi
  fin_cases hi <;> simp [decode, encode, decodeArm_of_cond hc, decodeCond, decodeCopLs, encodeCopLs,
    BitVec.extractLsb'_or, extract_place_off, hpuw]

end

/-! ## Unconditional ARM instructions (R321) -/

theorem Cond.bits_nv : Cond.nv.bits = 0xF#4 := rfl

theorem decodeArm_of_uncond {w : Word} (h : w.extractLsb' 28 4 = 0xF#4) : decodeArm w = decodeUncond w := by
  rw [decodeArm, if_pos h]

theorem decode_encode_armPldImm (u : Bool) (rn : RegNum) (sb : BitVec 4) (offset12 : BitVec 12) :
    decode (encode (.armPldImm u rn sb offset12)) = .ok (.armPldImm u rn sb offset12) := by
  simp [decode, encode, decodeArm_of_uncond, decodeUncond, BitVec.extractLsb'_or, extract_place_off]

theorem decode_encode_armPldReg (u : Bool) (rn : RegNum) (sb : BitVec 4) (amt : BitVec 5) (kind : ShiftKind)
    (rm : RegNum) :
    decode (encode (.armPldReg u rn sb amt kind rm)) = .ok (.armPldReg u rn sb amt kind rm) := by
  simp [decode, encode, decodeArm_of_uncond, decodeUncond, BitVec.extractLsb'_or, extract_place_off]

theorem decode_encode_armBlxImm (h : Bool) (imm24 : BitVec 24) :
    decode (encode (.armBlxImm h imm24)) = .ok (.armBlxImm h imm24) := by
  simp [decode, encode, decodeArm_of_uncond, decodeUncond, BitVec.extractLsb'_or, extract_place_off]

theorem decode_encode_copRt2 (op1 : BitVec 3) (crn rd cp : BitVec 4) (op2 : BitVec 3) (crm : BitVec 4) :
    ∀ i ∈ [Instr.armMcr2 op1 crn rd cp op2 crm, .armMrc2 op1 crn rd cp op2 crm], decode (encode i) = .ok i := by
  intro i hi
  fin_cases hi <;> simp [decode, encode, decodeArm_of_uncond, decodeUncond, encodeCopRt, Cond.bits_nv,
    BitVec.extractLsb'_or, extract_place_off]

theorem decode_encode_armCdp2 (op1 crn crd cp : BitVec 4) (op2 : BitVec 3) (crm : BitVec 4) :
    decode (encode (.armCdp2 op1 crn crd cp op2 crm)) = .ok (.armCdp2 op1 crn crd cp op2 crm) := by
  simp [decode, encode, decodeArm_of_uncond, decodeUncond, encodeCdp, Cond.bits_nv,
    BitVec.extractLsb'_or, extract_place_off]

theorem decode_encode_copLs2 {p u w : Bool} (h : (p || u || w) = true) (n : Bool) (rn crd cp : BitVec 4)
    (offset8 : BitVec 8) :
    ∀ i ∈ [Instr.armLdc2 p u n w rn crd cp offset8, .armStc2 p u n w rn crd cp offset8],
      decode (encode i) = .ok i := by
  have hpuw : ¬((p = false ∧ u = false) ∧ w = false) := by simpa [or_iff_not_imp_left] using h
  intro i hi
  fin_cases hi <;> simp [decode, encode, decodeArm_of_uncond, decodeUncond, encodeCopLs, Cond.bits_nv,
    BitVec.extractLsb'_or, extract_place_off, hpuw]

/-! ## Thumb instructions (R340) -/

theorem decode_encode_thumb5 (imm5 : BitVec 5) (f5 f2 : LowReg) :
    ∀ i ∈ [Instr.thumbLslImm imm5 f5 f2, .thumbLsrImm imm5 f5 f2, .thumbAsrImm imm5 f5 f2, .thumbStrImm imm5 f5 f2,
      .thumbLdrImm imm5 f5 f2, .thumbStrbImm imm5 f5 f2, .thumbLdrbImm imm5 f5 f2, .thumbStrhImm imm5 f5 f2,
      .thumbLdrhImm imm5 f5 f2], decode (encode i) = .ok i := by
  intro i hi
  fin_cases hi <;> simp [encode, decode, decodeThumb, encodeT5, BitVec.extractLsb'_or, extract_place_off]

theorem decode_encode_thumb333 (f8 f5 f2 : BitVec 3) :
    ∀ i ∈ [Instr.thumbAddReg f8 f5 f2, .thumbSubReg f8 f5 f2, .thumbAddImm3 f8 f5 f2, .thumbSubImm3 f8 f5 f2,
      .thumbStrReg f8 f5 f2, .thumbStrhReg f8 f5 f2, .thumbStrbReg f8 f5 f2, .thumbLdrsb f8 f5 f2,
      .thumbLdrReg f8 f5 f2, .thumbLdrhReg f8 f5 f2, .thumbLdrbReg f8 f5 f2, .thumbLdrsh f8 f5 f2],
      decode (encode i) = .ok i := by
  intro i hi
  fin_cases hi <;>
    simp [encode, decode, decodeThumb, decodeThumbLsReg, encodeT333, BitVec.extractLsb'_or, extract_place_off]

theorem decode_encode_thumb38 (f10 : LowReg) (f7 : BitVec 8) :
    ∀ i ∈ [Instr.thumbMovImm f10 f7, .thumbCmpImm f10 f7, .thumbAddImm8 f10 f7, .thumbSubImm8 f10 f7,
      .thumbLdrPc f10 f7, .thumbStrSp f10 f7, .thumbLdrSp f10 f7, .thumbAddPc f10 f7, .thumbAddSp f10 f7,
      .thumbStmia f10 f7, .thumbLdmia f10 f7], decode (encode i) = .ok i := by
  intro i hi
  fin_cases hi <;> simp [encode, decode, decodeThumb, encodeT38, BitVec.extractLsb'_or, extract_place_off]

theorem decode_encode_thumbAlu (rm rd : LowReg) :
    ∀ i ∈ [Instr.thumbAnd rm rd, .thumbEor rm rd, .thumbLslReg rm rd, .thumbLsrReg rm rd, .thumbAsrReg rm rd,
      .thumbAdc rm rd, .thumbSbc rm rd, .thumbRor rm rd, .thumbTst rm rd, .thumbNeg rm rd, .thumbCmpReg rm rd,
      .thumbCmn rm rd, .thumbOrr rm rd, .thumbMul rm rd, .thumbBic rm rd, .thumbMvn rm rd],
      decode (encode i) = .ok i := by
  intro i hi
  fin_cases hi <;>
    simp [encode, decode, decodeThumb, decodeThumbAlu, encodeT33, BitVec.extractLsb'_or, extract_place_off]

theorem decode_encode_thumbHi (h1 h2 : Bool) (f5 f2 : LowReg) :
    ∀ i ∈ [Instr.thumbAddHi h1 h2 f5 f2, .thumbCmpHi h1 h2 f5 f2, .thumbMovHi h1 h2 f5 f2],
      decode (encode i) = .ok i := by
  intro i hi
  fin_cases hi <;>
    simp [encode, decode, decodeThumb, decodeThumbHi, encodeTHi, BitVec.extractLsb'_or, extract_place_off]

theorem decode_encode_thumbExchange (h2 : Bool) (rm : LowReg) (sb : BitVec 3) :
    ∀ i ∈ [Instr.thumbBx h2 rm sb, .thumbBlxReg h2 rm sb], decode (encode i) = .ok i := by
  intro i hi
  fin_cases hi <;>
    simp [encode, decode, decodeThumb, decodeThumbHi, encodeTHi, BitVec.extractLsb'_or, extract_place_off]

theorem decode_encode_thumbImm7 (imm7 : BitVec 7) :
    ∀ i ∈ [Instr.thumbAddSpImm7 imm7, .thumbSubSpImm7 imm7], decode (encode i) = .ok i := by
  intro i hi
  fin_cases hi <;> simp [encode, decode, decodeThumb, decodeThumbMisc, BitVec.extractLsb'_or, extract_place_off]

theorem decode_encode_thumbImm8 (imm8 : BitVec 8) :
    ∀ i ∈ [Instr.thumbBkpt imm8, .thumbSwi imm8], decode (encode i) = .ok i := by
  intro i hi
  fin_cases hi <;> simp [encode, decode, decodeThumb, decodeThumbMisc, decodeThumbBCond, BitVec.extractLsb'_or,
    extract_place_off]

theorem decode_encode_thumbB (imm11 : BitVec 11) : decode (encode (.thumbB imm11)) = .ok (.thumbB imm11) := by
  simp [encode, decode, decodeThumb, BitVec.extractLsb'_or, extract_place_off]

/-- The R bit is part of the field that tells PUSH and POP from the rest of the space. -/
theorem decode_encode_thumbList (r : Bool) (list : BitVec 8) :
    ∀ i ∈ [Instr.thumbPush r list, .thumbPop r list], decode (encode i) = .ok i := by
  have hf : placeBit 16 8 false = 0#16 := rfl
  have ht : placeBit 16 8 true = 0x0100#16 := rfl
  intro i hi
  cases r <;> fin_cases hi <;>
    simp [encode, decode, decodeThumb, decodeThumbMisc, BitVec.extractLsb'_or, extract_place_off, hf, ht]

theorem decodeThumb_of_branchSpace {h : Half} (ht : h.extractLsb' 12 4 = 0b1101#4) :
    decodeThumb h = decodeThumbBCond h := by
  have h11 : h.extractLsb' 11 5 = h.extractLsb' 12 4 ++ h.extractLsb' 11 1 :=
    (BitVec.extractLsb'_append_extractLsb'_eq_extractLsb' (start₁ := 11) (len₁ := 1) (len₂ := 4) rfl).symm
  have hbit : ∀ b : BitVec 1, b = 0#1 ∨ b = 1#1 := by decide
  unfold decodeThumb
  rw [h11, ht]
  rcases hbit (h.extractLsb' 11 1) with h | h <;> rw [h] <;> rfl

theorem decode_encode_thumbBCond {c : Cond} (hal : c ≠ .al) (hnv : c ≠ .nv) (imm8 : BitVec 8) :
    decode (encode (.thumbBCond c imm8)) = .ok (.thumbBCond c imm8) := by
  have hE : c.bits ≠ 0xE#4 := by cases c <;> simp_all [Cond.bits]
  have hF : c.bits ≠ 0xF#4 := mt Cond.bits_eq_nv.1 hnv
  dsimp only [encode, decode]
  rw [decodeThumb_of_branchSpace (by simp [BitVec.extractLsb'_or, extract_place_off])]
  simp [decodeThumbBCond, BitVec.extractLsb'_or, extract_place_off]

/-! ## 32-bit Thumb instructions (R350, R351) -/

theorem decode_encode_thumb32Branch (s : Bool) (imm10 : BitVec 10) (j1 j2 : Bool) (imm11 : BitVec 11) :
    ∀ i ∈ [Instr.thumb32Bl s imm10 j1 j2 imm11, .thumb32BT4 s imm10 j1 j2 imm11], decode (encode i) = .ok i := by
  intro i hi
  fin_cases hi <;>
    simp [encode, decode, decodeThumb32, encodeT2Branch, BitVec.extractLsb'_or, extract_place_off]

theorem decode_encode_thumb32BlxImm (s : Bool) (imm10H : BitVec 10) (j1 j2 : Bool) (imm10L : BitVec 10) (h : Bool) :
    decode (encode (.thumb32BlxImm s imm10H j1 j2 imm10L h)) = .ok (.thumb32BlxImm s imm10H j1 j2 imm10L h) := by
  simp [encode, decode, decodeThumb32, BitVec.extractLsb'_or, extract_place_off]

theorem decode_encode_thumb32Trap (imm4 : BitVec 4) (imm12 : BitVec 12) :
    ∀ i ∈ [Instr.thumb32Udf imm4 imm12, .thumb32Smc imm4 imm12], decode (encode i) = .ok i := by
  intro i hi
  fin_cases hi <;>
    simp [encode, decode, decodeThumb32, decodeThumb32Misc, BitVec.extractLsb'_or, extract_place_off]

theorem decode_encode_thumb32Status (free5 : BitVec 5) (free13 : Bool) (free12 : BitVec 12) :
    ∀ i ∈ [Instr.thumb32Msr free5 free13 free12, .thumb32Mrs free5 free13 free12], decode (encode i) = .ok i := by
  intro i hi
  fin_cases hi <;>
    simp [encode, decode, decodeThumb32, decodeThumb32Misc, encodeT2Misc, BitVec.extractLsb'_or, extract_place_off]

theorem decode_encode_thumb32Control (free4 : BitVec 4) (free13 : Bool) (free12 : BitVec 12) :
    ∀ i ∈ [Instr.thumb32Hint free4 free13 free12, .thumb32MiscCtl free4 free13 free12,
      .thumb32Bxj free4 free13 free12, .thumb32SubsPcLr free4 free13 free12], decode (encode i) = .ok i := by
  intro i hi
  fin_cases hi <;>
    simp [encode, decode, decodeThumb32, decodeThumb32Misc, encodeT2Misc, BitVec.extractLsb'_or, extract_place_off]

theorem decode_encode_thumb32BrMiscUndef {opm : BitVec 3} (h : opm ≠ 0b111#3) (free4 : BitVec 4) (free13 : Bool)
    (free12 : BitVec 12) :
    decode (encode (.thumb32BrMiscUndef opm free4 free13 free12))
      = .ok (.thumb32BrMiscUndef opm free4 free13 free12) := by
  simp [encode, decode, decodeThumb32, decodeThumb32Misc, BitVec.extractLsb'_or, extract_place_off, h]

theorem decode_encode_thumb32BT3 {cond : BitVec 4} (h : cond.extractLsb' 1 3 ≠ 0b111#3) (s : Bool) (imm6 : BitVec 6)
    (j1 j2 : Bool) (imm11 : BitVec 11) :
    decode (encode (.thumb32BT3 s cond imm6 j1 j2 imm11)) = .ok (.thumb32BT3 s cond imm6 j1 j2 imm11) := by
  simp [encode, decode, decodeThumb32, decodeThumb32Misc, BitVec.extractLsb'_or, extract_place_off, h]

theorem decode_encode_thumb32DpImm (free11 : BitVec 11) (free15 : BitVec 15) :
    decode (encode (.thumb32DpImm free11 free15)) = .ok (.thumb32DpImm free11 free15) := by
  simp [encode, decode, decodeThumb32, BitVec.extractLsb'_or, extract_place_off]

theorem decode_encode_thumb32Space (free27 : BitVec 27) :
    ∀ i ∈ [Instr.thumb32Space01 free27, .thumb32Space11 free27], decode (encode i) = .ok i := by
  intro i hi
  fin_cases hi <;> simp [encode, decode, decodeThumb32, BitVec.extractLsb'_or, extract_place_off]

/-! ## The statement -/

theorem thumbBCond_ne_al {c : Cond} {imm8 : BitVec 8} (h : (Instr.thumbBCond c imm8).wellFormed = true) :
    c ≠ .al := by
  simp only [Instr.wellFormed, Instr.condOk, Bool.and_eq_true, bne_iff_ne] at h
  exact h.1.1

/-- Decode after encode, by the formats; an undefined word is read by the holes of its table. -/
theorem decode_encode (i : Instr) (hw : i.wellFormed = true) : decode (encode i) = .ok i := by
  cases i with
  | armAnd c sf rn rd op2 | armEor c sf rn rd op2 | armSub c sf rn rd op2 | armRsb c sf rn rd op2
  | armAdd c sf rn rd op2 | armAdc c sf rn rd op2 | armSbc c sf rn rd op2 | armRsc c sf rn rd op2
  | armOrr c sf rn rd op2 | armMov c sf rn rd op2 | armBic c sf rn rd op2 | armMvn c sf rn rd op2 =>
    exact decode_encode_dp (cond_ne_nv hw rfl) sf rn rd op2 _ (by simp)
  | armTst c rn sb op2 | armTeq c rn sb op2 | armCmp c rn sb op2 | armCmn c rn sb op2 =>
    exact decode_encode_dpTest (cond_ne_nv hw rfl) rn sb op2 _ (by simp)
  | armMul c sf rd sb rs rm | armMla c sf rd sb rs rm | armUmull c sf rd sb rs rm | armUmlal c sf rd sb rs rm
  | armSmull c sf rd sb rs rm | armSmlal c sf rd sb rs rm =>
    exact decode_encode_multiply (cond_ne_nv hw rfl) sf rd sb rs rm _ (by simp)
  | armSmlaxy c rd rn rs y x rm | armSmlalxy c rd rn rs y x rm | armSmulxy c rd rn rs y x rm =>
    exact decode_encode_dspXy (cond_ne_nv hw rfl) rd rn rs y x rm _ (by simp)
  | armSmlawy c rd rn rs y rm | armSmulwy c rd rn rs y rm =>
    exact decode_encode_dspY (cond_ne_nv hw rfl) rd rn rs y rm _ (by simp)
  | armQadd c rn rd sb rm | armQsub c rn rd sb rm | armQdadd c rn rd sb rm | armQdsub c rn rd sb rm
  | armSwp c rn rd sb rm | armSwpb c rn rd sb rm | armClz c rn rd sb rm =>
    exact decode_encode_fourFields (cond_ne_nv hw rfl) rn rd sb rm _ (by simp)
  | armLdr c u ix rn rd off | armStr c u ix rn rd off | armLdrb c u ix rn rd off | armStrb c u ix rn rd off =>
    exact decode_encode_single (cond_ne_nv hw rfl) u ix rn rd off _ (by simp)
  | armLdrt c u rn rd off | armStrt c u rn rd off | armLdrbt c u rn rd off | armStrbt c u rn rd off =>
    exact decode_encode_singleT (cond_ne_nv hw rfl) u rn rd off _ (by simp)
  | armLdrh c p u w rn rd off | armStrh c p u w rn rd off | armLdrsb c p u w rn rd off | armLdrsh c p u w rn rd off
  | armLdrd c p u w rn rd off | armStrd c p u w rn rd off =>
    exact decode_encode_extra (cond_ne_nv hw rfl) p u w rn rd off _ (by simp)
  | armPldImm u rn sb offset12 => exact decode_encode_armPldImm u rn sb offset12
  | armPldReg u rn sb amt kind rm => exact decode_encode_armPldReg u rn sb amt kind rm
  | armLdm1 c p u w rn list | armStm1 c p u w rn list | armStm2 c p u w rn list =>
    exact decode_encode_block (cond_ne_nv hw rfl) p u w rn list _ (by simp)
  | armLdm2 c p u w rn list | armLdm3 c p u w rn list =>
    exact decode_encode_blockSystem (cond_ne_nv hw rfl) p u w rn list _ (by simp)
  | armB c imm24 | armBl c imm24 | armSwi c imm24 => exact decode_encode_imm24 (cond_ne_nv hw rfl) imm24 _ (by simp)
  | armBx c sb rm | armBlxReg c sb rm | armBkpt c sb rm =>
    exact decode_encode_exchange (cond_ne_nv hw rfl) sb rm _ (by simp)
  | armBlxImm h imm24 => exact decode_encode_armBlxImm h imm24
  | armMrs c r sb19 rd sb11 sb3 => exact decode_encode_armMrs (cond_ne_nv hw rfl) r sb19 rd sb11 sb3
  | armMsrReg c r mask sb rm => exact decode_encode_armMsrReg (cond_ne_nv hw rfl) r mask sb rm
  | armMsrImm c r mask sb rot imm8 => exact decode_encode_armMsrImm (cond_ne_nv hw rfl) r mask sb rot imm8
  | armUndefined w => exact congrArg Except.ok ((decodeArm_eq_undefined w).2 (formOk_of_wellFormed hw))
  | armMcr c op1 crn rd cp op2 crm | armMrc c op1 crn rd cp op2 crm =>
    exact decode_encode_copRt (cond_ne_nv hw rfl) op1 crn rd cp op2 crm _ (by simp)
  | armCdp c op1 crn crd cp op2 crm => exact decode_encode_armCdp (cond_ne_nv hw rfl) op1 crn crd cp op2 crm
  | armLdc c p u n w rn crd cp offset8 | armStc c p u n w rn crd cp offset8 =>
    exact decode_encode_copLs (cond_ne_nv hw rfl) (formOk_of_wellFormed hw) n rn crd cp offset8 _ (by simp)
  | armMcrr c rn rd cp op crm | armMrrc c rn rd cp op crm =>
    exact decode_encode_copTwo (cond_ne_nv hw rfl) rn rd cp op crm _ (by simp)
  | armCdp2 op1 crn crd cp op2 crm => exact decode_encode_armCdp2 op1 crn crd cp op2 crm
  | armLdc2 p u n w rn crd cp offset8 | armStc2 p u n w rn crd cp offset8 =>
    exact decode_encode_copLs2 (formOk_of_wellFormed hw) n rn crd cp offset8 _ (by simp)
  | armMcr2 op1 crn rd cp op2 crm | armMrc2 op1 crn rd cp op2 crm =>
    exact decode_encode_copRt2 op1 crn rd cp op2 crm _ (by simp)
  | thumbLslImm imm5 rm rd | thumbLsrImm imm5 rm rd | thumbAsrImm imm5 rm rd | thumbStrImm imm5 rm rd
  | thumbLdrImm imm5 rm rd | thumbStrbImm imm5 rm rd | thumbLdrbImm imm5 rm rd | thumbStrhImm imm5 rm rd
  | thumbLdrhImm imm5 rm rd => exact decode_encode_thumb5 imm5 rm rd _ (by simp)
  | thumbAddReg rm rn rd | thumbSubReg rm rn rd | thumbAddImm3 rm rn rd | thumbSubImm3 rm rn rd
  | thumbStrReg rm rn rd | thumbStrhReg rm rn rd | thumbStrbReg rm rn rd | thumbLdrsb rm rn rd | thumbLdrReg rm rn rd
  | thumbLdrhReg rm rn rd | thumbLdrbReg rm rn rd | thumbLdrsh rm rn rd =>
    exact decode_encode_thumb333 rm rn rd _ (by simp)
  | thumbMovImm rd imm8 | thumbCmpImm rd imm8 | thumbAddImm8 rd imm8 | thumbSubImm8 rd imm8 | thumbLdrPc rd imm8
  | thumbStrSp rd imm8 | thumbLdrSp rd imm8 | thumbAddPc rd imm8 | thumbAddSp rd imm8 | thumbStmia rd imm8
  | thumbLdmia rd imm8 => exact decode_encode_thumb38 rd imm8 _ (by simp)
  | thumbAnd rm rd | thumbEor rm rd | thumbLslReg rm rd | thumbLsrReg rm rd | thumbAsrReg rm rd | thumbAdc rm rd
  | thumbSbc rm rd | thumbRor rm rd | thumbTst rm rd | thumbNeg rm rd | thumbCmpReg rm rd | thumbCmn rm rd
  | thumbOrr rm rd | thumbMul rm rd | thumbBic rm rd | thumbMvn rm rd =>
    exact decode_encode_thumbAlu rm rd _ (by simp)
  | thumbAddHi h1 h2 rm rd | thumbCmpHi h1 h2 rm rd | thumbMovHi h1 h2 rm rd =>
    exact decode_encode_thumbHi h1 h2 rm rd _ (by simp)
  | thumbBx h2 rm sb | thumbBlxReg h2 rm sb => exact decode_encode_thumbExchange h2 rm sb _ (by simp)
  | thumbAddSpImm7 imm7 | thumbSubSpImm7 imm7 => exact decode_encode_thumbImm7 imm7 _ (by simp)
  | thumbPush r list | thumbPop r list => exact decode_encode_thumbList r list _ (by simp)
  | thumbBkpt imm8 | thumbSwi imm8 => exact decode_encode_thumbImm8 imm8 _ (by simp)
  | thumbUndefined h =>
    have hp : isThumb32Prefix h = false := Laws.FetchLength.thumbUndefined h hw
    exact congrArg Except.ok ((decodeThumb_eq_undefined hp).2 (formOk_of_wellFormed hw))
  | thumbBCond c imm8 => exact decode_encode_thumbBCond (thumbBCond_ne_al hw) (cond_ne_nv hw rfl) imm8
  | thumbB imm11 => exact decode_encode_thumbB imm11
  | thumb32Bl s imm10 j1 j2 imm11 | thumb32BT4 s imm10 j1 j2 imm11 =>
    exact decode_encode_thumb32Branch s imm10 j1 j2 imm11 _ (by simp)
  | thumb32BlxImm s imm10H j1 j2 imm10L h => exact decode_encode_thumb32BlxImm s imm10H j1 j2 imm10L h
  | thumb32Udf imm4 imm12 | thumb32Smc imm4 imm12 => exact decode_encode_thumb32Trap imm4 imm12 _ (by simp)
  | thumb32Msr free5 free13 free12 | thumb32Mrs free5 free13 free12 =>
    exact decode_encode_thumb32Status free5 free13 free12 _ (by simp)
  | thumb32Hint free4 free13 free12 | thumb32MiscCtl free4 free13 free12 | thumb32Bxj free4 free13 free12
  | thumb32SubsPcLr free4 free13 free12 => exact decode_encode_thumb32Control free4 free13 free12 _ (by simp)
  | thumb32BrMiscUndef opm free4 free13 free12 =>
    exact decode_encode_thumb32BrMiscUndef (by simpa [Instr.formOk] using formOk_of_wellFormed hw) free4 free13 free12
  | thumb32BT3 s cond imm6 j1 j2 imm11 =>
    exact decode_encode_thumb32BT3 (by simpa [Instr.formOk] using formOk_of_wellFormed hw) s imm6 j1 j2 imm11
  | thumb32DpImm free11 free15 => exact decode_encode_thumb32DpImm free11 free15
  | thumb32Space01 free27 | thumb32Space11 free27 => exact decode_encode_thumb32Space free27 _ (by simp)

/-- Settles O1. -/
theorem decodeOfEncode : Obligations.DecodeOfEncode := by
  unfold Obligations.DecodeOfEncode
  exact decode_encode

end Sys2Proof
end

section
/-! PROOFS. Decode, then encode (O2). A decoded instruction's word is compared with the word it was decoded from field
by field: the lists of numbers below are the widths of the fields from bit 0 up. -/

namespace Sys2Proof

/-! ## ARM words (R304, R320 to R322) -/

/-- What the decoder's answer for an ARM word must be: the word as an undefined instruction, or a well-formed
instruction that encodes to the word. -/
def decodesFrom (i : Instr) (w : Word) : Prop :=
  i = .armUndefined w ∨ (i.wellFormed = true ∧ encode i = .arm w)

theorem decodesFrom_of_fields {i : Instr} {v w : Word} (ks : List Nat) (h : agreeOn v w 0 ks)
    (hv : encode i = .arm v := by rfl) (hi : i.wellFormed = true := by rfl) (hks : ks.sum = 32 := by rfl) :
    decodesFrom i w :=
  .inr ⟨hi, by rw [hv, eq_of_agreeOn ks hks h]⟩

/-- An ARM instruction with a condition other than 1111 that passes its form's own check is well-formed. -/
theorem wellFormed_of_cond {i : Instr} {c : Cond} (hc : c ≠ .nv) (hi : i.condOf = some c := by rfl)
    (ht : (encode i).isThumb = false := by rfl) (hf : i.formOk = true := by rfl) : i.wellFormed = true := by
  unfold Instr.wellFormed Instr.condOk
  split
  · cases ht
  · simp [hi, hc, hf]

theorem decodesFrom_of_condFields {i : Instr} {c : Cond} {v w : Word} (hc : c ≠ .nv) (ks : List Nat)
    (h : agreeOn v w 0 ks) (hv : encode i = .arm v := by rfl) (hi : i.condOf = some c := by rfl)
    (hf : i.formOk = true := by rfl) (hks : ks.sum = 32 := by rfl) : decodesFrom i w :=
  decodesFrom_of_fields ks h hv (wellFormed_of_cond hc hi (by rw [hv]; rfl) hf) hks

section
variable {c : Cond} {w : Word} (hc : c ≠ .nv) (h28 : w.extractLsb' 28 4 = c.bits)
include hc h28

theorem decodesFrom_decodeMulSwap (h25 : w.extractLsb' 25 3 = 0b000#3) (h7 : w[7] = true) (h4 : w[4] = true)
    (h5 : w.extractLsb' 5 2 = 0b00#2) : decodesFrom (decodeMulSwap c w) w := by
  unfold decodeMulSwap
  split
  case h_9 => exact .inl rfl
  case h_7 | h_8 =>
    dsimp only
    split
    · exact .inl rfl
    · next h20 =>
      have h20 : w[20] = false := by simpa using h20
      refine decodesFrom_of_condFields hc [4, 1, 2, 1, 4, 4, 4, 1, 4, 3, 4] ?_
      simp [encode4, BitVec.extractLsb'_or, extract_place_off, *]
  all_goals
    refine decodesFrom_of_condFields hc [4, 1, 2, 1, 4, 4, 4, 1, 4, 3, 4] ?_
    simp [encode4, BitVec.extractLsb'_or, extract_place_off, *]

theorem decodesFrom_decodeDp {op2 : Operand2} (h26 : w.extractLsb' 26 2 = 0b00#2)
    (hlow : (encodeOp2 op2).extractLsb' 0 12 = w.extractLsb' 0 12) (h25 : (encodeOp2 op2)[25] = w[25])
    (hs : w.extractLsb' 23 2 = 0b10#2 → w[20] = true) :
    decodesFrom (decodeDp c w op2) w := by
  have hw : encodeDp (place 32 21 (w.extractLsb' 21 4)) c w[20] (w.extractLsb' 16 4) (w.extractLsb' 12 4) op2 = w := by
    refine eq_of_agreeOn [12, 4, 4, 1, 4, 1, 2, 4] rfl ?_
    simp [encodeDp, BitVec.extractLsb'_or, extract_place_off, *]
  have hop : w.extractLsb' 23 2 = (w.extractLsb' 21 4).extractLsb' 2 2 := extract_within rfl (by omega)
  unfold decodeDp
  split
  case h_9 h | h_10 h | h_11 h | h_12 h =>
    rw [h, hs (by rw [hop, h]; rfl)] at hw
    exact .inr ⟨wellFormed_of_cond hc, congrArg Code.arm hw⟩
  case h_16 =>
    have hop : w.extractLsb' 21 4 = 0b1111#4 := by
      clear hw hop
      generalize w.extractLsb' 21 4 = op at *
      revert op
      decide
    rw [hop] at hw
    exact .inr ⟨wellFormed_of_cond hc, congrArg Code.arm hw⟩
  all_goals
    next h =>
    rw [h] at hw
    exact .inr ⟨wellFormed_of_cond hc, congrArg Code.arm hw⟩

theorem decodesFrom_decodeExtra (h25 : w.extractLsb' 25 3 = 0b000#3) (h7 : w[7] = true) (h4 : w[4] = true)
    (h5 : w.extractLsb' 5 2 ≠ 0b00#2) : decodesFrom (decodeExtra c w) w := by
  obtain ⟨h0, h8, h22⟩ := encodeOffset3_decodeOffset3 (w := w)
  simp only [decodeExtra, BitVec.getLsbD_eq_getElem, Nat.reduceLT]
  split
  case h_3 h1 h2 =>
    have h5 := eq_three_of_ne h5 h1 h2
    split <;>
    · refine decodesFrom_of_condFields hc [4, 1, 2, 1, 4, 4, 4, 1, 1, 1, 1, 1, 3, 4] ?_
      simp [encodeExtra, BitVec.extractLsb'_or, extract_place_off, *]
  all_goals
    split <;>
    · refine decodesFrom_of_condFields hc [4, 1, 2, 1, 4, 4, 4, 1, 1, 1, 1, 1, 3, 4] ?_
      simp [encodeExtra, BitVec.extractLsb'_or, extract_place_off, *]

theorem decodesFrom_decodeMisc (h25 : w.extractLsb' 25 3 = 0b000#3) (h74 : w[7] = true → w[4] = false)
    (h23 : w.extractLsb' 23 2 = 0b10#2) (h20 : w[20] = false) : decodesFrom (decodeMisc c w) w := by
  simp only [decodeMisc, BitVec.getLsbD_eq_getElem, Nat.reduceLT]
  split
  · next h7 =>
    have h4 := h74 h7
    split
    case h_2 =>
      split <;>
      · refine decodesFrom_of_condFields hc [4, 1, 1, 1, 1, 4, 4, 4, 1, 2, 2, 3, 4] ?_
        simp [encode4, BitVec.extractLsb'_or, extract_place_off, *]
    case h_4 h0 h1 h2 =>
      have h21 := eq_three_of_ne h0 h1 h2
      refine decodesFrom_of_condFields hc [4, 1, 1, 1, 1, 4, 4, 4, 1, 2, 2, 3, 4] ?_
      simp [encode4, BitVec.extractLsb'_or, extract_place_off, *]
    all_goals
      refine decodesFrom_of_condFields hc [4, 1, 1, 1, 1, 4, 4, 4, 1, 2, 2, 3, 4] ?_
      simp [encode4, BitVec.extractLsb'_or, extract_place_off, *]
  · split
    case h_1 =>
      split
      · refine decodesFrom_of_condFields hc [4, 3, 1, 8, 4, 1, 1, 1, 2, 3, 4] ?_
        simp [BitVec.extractLsb'_or, extract_place_off, *]
      · refine decodesFrom_of_condFields hc [4, 3, 1, 4, 4, 4, 1, 1, 1, 2, 3, 4] ?_
        simp [encode4, BitVec.extractLsb'_or, extract_place_off, *]
    case h_2 =>
      split
      · refine decodesFrom_of_condFields hc [4, 3, 1, 12, 1, 2, 2, 3, 4] ?_
        simp [BitVec.extractLsb'_or, extract_place_off, *]
      · refine decodesFrom_of_condFields hc [4, 3, 1, 4, 4, 4, 1, 2, 2, 3, 4] ?_
        simp [encode4, BitVec.extractLsb'_or, extract_place_off, *]
      · exact .inl rfl
    case h_3 | h_5 =>
      split
      · refine decodesFrom_of_condFields hc [4, 3, 1, 12, 1, 2, 2, 3, 4] ?_
        simp [BitVec.extractLsb'_or, extract_place_off, *]
      · exact .inl rfl
    case h_4 =>
      split
      case h_4 h0 h1 h2 =>
        have h21 := eq_three_of_ne h0 h1 h2
        refine decodesFrom_of_condFields hc [4, 3, 1, 4, 4, 4, 1, 2, 2, 3, 4] ?_
        simp [encode4, BitVec.extractLsb'_or, extract_place_off, *]
      all_goals
        refine decodesFrom_of_condFields hc [4, 3, 1, 4, 4, 4, 1, 2, 2, 3, 4] ?_
        simp [encode4, BitVec.extractLsb'_or, extract_place_off, *]
    case h_6 => exact .inl rfl

theorem decodesFrom_decodeSingle (h26 : w.extractLsb' 26 2 = 0b01#2) (h : w[25] = true → w[4] = false) :
    decodesFrom (decodeSingle c w) w := by
  have hlow := encodeOffset2_decodeOffset2 h
  have h25 := getElem_encodeOffset2_decodeOffset2 (w := w)
  simp only [decodeSingle, BitVec.getLsbD_eq_getElem, Nat.reduceLT]
  split_ifs <;>
  · refine decodesFrom_of_condFields hc [12, 4, 4, 1, 1, 1, 1, 1, 1, 2, 4] ?_
    simp_all [encodeSingle, encodeIndexing, BitVec.extractLsb'_or, extract_place_off]

theorem decodesFrom_decodeBlock (h25 : w.extractLsb' 25 3 = 0b100#3) :
    decodesFrom (decodeBlock c w) w := by
  simp only [decodeBlock, BitVec.getLsbD_eq_getElem, Nat.reduceLT]
  split_ifs
  · refine decodesFrom_of_condFields hc [15, 1, 4, 1, 1, 1, 1, 1, 3, 4] ?_
    simp [encodeBlock, BitVec.extractLsb'_or, extract_place_off, *]
  · refine decodesFrom_of_condFields hc [15, 1, 4, 1, 1, 1, 1, 1, 3, 4] ?_
    simp [encodeBlock, BitVec.extractLsb'_or, extract_place_off, *]
  all_goals
    refine decodesFrom_of_condFields hc [16, 4, 1, 1, 1, 1, 1, 3, 4] ?_
    simp [encodeBlock, BitVec.extractLsb'_or, extract_place_off, *]

theorem decodesFrom_decodeCopLs (h25 : w.extractLsb' 25 3 = 0b110#3) : decodesFrom (decodeCopLs c w) w := by
  simp only [decodeCopLs, BitVec.getLsbD_eq_getElem, Nat.reduceLT]
  split_ifs with hpuw h22 h20 h20
  · refine decodesFrom_of_condFields hc [4, 4, 4, 4, 4, 1, 1, 1, 1, 1, 3, 4] ?_
    simp_all [encode4, BitVec.extractLsb'_or, extract_place_off]
  · refine decodesFrom_of_condFields hc [4, 4, 4, 4, 4, 1, 1, 1, 1, 1, 3, 4] ?_
    simp_all [encode4, BitVec.extractLsb'_or, extract_place_off]
  · exact .inl rfl
  all_goals
    have hf : (w[24] || w[23] || w[21]) = true := by simpa [or_iff_not_imp_left] using hpuw
    refine decodesFrom_of_condFields hc [8, 4, 4, 4, 1, 1, 1, 1, 1, 3, 4] ?_ (hf := hf)
    simp [encodeCopLs, BitVec.extractLsb'_or, extract_place_off, *]

theorem decodesFrom_decodeCopSwi (h25 : w.extractLsb' 25 3 = 0b111#3) : decodesFrom (decodeCopSwi c w) w := by
  simp only [decodeCopSwi, BitVec.getLsbD_eq_getElem, Nat.reduceLT]
  split_ifs with h24 h4 h20
  · refine decodesFrom_of_condFields hc [24, 1, 3, 4] ?_
    simp [encodeImm24, BitVec.extractLsb'_or, extract_place_off, *]
  · refine decodesFrom_of_condFields hc [4, 1, 3, 4, 4, 4, 1, 3, 1, 3, 4] ?_
    simp [encodeCopRt, BitVec.extractLsb'_or, extract_place_off, *]
  · refine decodesFrom_of_condFields hc [4, 1, 3, 4, 4, 4, 1, 3, 1, 3, 4] ?_
    simp [encodeCopRt, BitVec.extractLsb'_or, extract_place_off, *]
  · refine decodesFrom_of_condFields hc [4, 1, 3, 4, 4, 4, 4, 1, 3, 4] ?_
    simp [encodeCdp, BitVec.extractLsb'_or, extract_place_off, *]

theorem decodesFrom_decodeCond : decodesFrom (decodeCond c w) w := by
  simp only [decodeCond, BitVec.getLsbD_eq_getElem, Nat.reduceLT]
  split
  case h_1 h25 =>
    have h26 := extract_within h25 (s := 26) (l := 2) (by omega)
    have hb25 : w[25] = false := getLsbD_of_extract h25 (i := 25) (by omega)
    split_ifs with h74 h5 hm h4
    · simp only [Bool.and_eq_true] at h74
      exact decodesFrom_decodeMulSwap hc h28 h25 h74.1 h74.2 h5
    · simp only [Bool.and_eq_true] at h74
      exact decodesFrom_decodeExtra hc h28 h25 h74.1 h74.2 h5
    · exact decodesFrom_decodeMisc hc h28 h25 (by simpa using h74) (by simp_all) (by simp_all)
    · exact decodesFrom_decodeDp hc h28 h26 (encodeOp2_decodeRegShift h4 (by simpa [h4] using h74))
        (by simp [decodeRegShift, encodeOp2, hb25]) (by simpa using hm)
    · exact decodesFrom_decodeDp hc h28 h26 (encodeOp2_decodeImmShift (by simpa using h4))
        (by simp [decodeImmShift, encodeOp2, hb25]) (by simpa using hm)
  case h_2 h25 =>
    have h26 := extract_within h25 (s := 26) (l := 2) (by omega)
    have hb25 : w[25] = true := getLsbD_of_extract h25 (i := 25) (by omega)
    split_ifs with hm h21
    · refine decodesFrom_of_condFields hc [8, 4, 4, 4, 1, 1, 1, 2, 3, 4] ?_
      simp_all [BitVec.extractLsb'_or, extract_place_off]
    · exact .inl rfl
    · exact decodesFrom_decodeDp hc h28 h26 encodeOp2_decodeImm
        (by simp [decodeImm, encodeOp2, hb25]) (by simpa using hm)
  case h_3 h25 =>
    have h26 := extract_within h25 (s := 26) (l := 2) (by omega)
    have hb25 : w[25] = false := getLsbD_of_extract h25 (i := 25) (by omega)
    exact decodesFrom_decodeSingle hc h28 h26 (by simp [hb25])
  case h_4 h25 =>
    have h26 := extract_within h25 (s := 26) (l := 2) (by omega)
    split_ifs with h4
    · exact .inl rfl
    · exact decodesFrom_decodeSingle hc h28 h26 (by simp [h4])
  case h_5 h25 => exact decodesFrom_decodeBlock hc h28 h25
  case h_6 h25 =>
    split_ifs <;>
    · refine decodesFrom_of_condFields hc [24, 1, 3, 4] ?_
      simp [encodeImm24, BitVec.extractLsb'_or, extract_place_off, *]
  case h_7 h25 => exact decodesFrom_decodeCopLs hc h28 h25
  case h_8 h0 h1 h2 h3 h4 h5 h6 =>
    exact decodesFrom_decodeCopSwi hc h28 (eq_seven_of_ne h0 h1 h2 h3 h4 h5 h6)

end

theorem decodesFrom_decodeUncond {w : Word} (h28 : w.extractLsb' 28 4 = 0xF#4) : decodesFrom (decodeUncond w) w := by
  simp only [decodeUncond, BitVec.getLsbD_eq_getElem, Nat.reduceLT]
  split
  case h_1 h25 =>
    refine decodesFrom_of_fields [24, 1, 3, 4] ?_
    simp [BitVec.extractLsb'_or, extract_place_off, *]
  case h_2 h25 =>
    split_ifs with h
    · refine decodesFrom_of_fields [12, 4, 4, 3, 1, 1, 3, 4] ?_
      simp_all [BitVec.extractLsb'_or, extract_place_off]
    · exact .inl rfl
  case h_3 h25 =>
    split_ifs with h
    · refine decodesFrom_of_fields [4, 1, 2, 5, 4, 4, 3, 1, 1, 3, 4] ?_
      simp_all [BitVec.extractLsb'_or, extract_place_off]
    · exact .inl rfl
  case h_4 h25 =>
    split_ifs with hpuw
    · exact .inl rfl
    all_goals
      have hf : (w[24] || w[23] || w[21]) = true := by simpa [or_iff_not_imp_left] using hpuw
      refine decodesFrom_of_fields [8, 4, 4, 4, 1, 1, 1, 1, 1, 3, 4] ?_ (hi := hf)
      simp [encodeCopLs, BitVec.extractLsb'_or, extract_place_off, Cond.bits_nv, *]
  case h_5 h25 =>
    split_ifs with h24 h4 h20
    · exact .inl rfl
    · refine decodesFrom_of_fields [4, 1, 3, 4, 4, 4, 1, 3, 1, 3, 4] ?_
      simp [encodeCopRt, BitVec.extractLsb'_or, extract_place_off, Cond.bits_nv, *]
    · refine decodesFrom_of_fields [4, 1, 3, 4, 4, 4, 1, 3, 1, 3, 4] ?_
      simp [encodeCopRt, BitVec.extractLsb'_or, extract_place_off, Cond.bits_nv, *]
    · refine decodesFrom_of_fields [4, 1, 3, 4, 4, 4, 4, 1, 3, 4] ?_
      simp [encodeCdp, BitVec.extractLsb'_or, extract_place_off, Cond.bits_nv, *]
  case h_6 => exact .inl rfl

theorem decodesFrom_decodeArm (w : Word) : decodesFrom (decodeArm w) w := by
  unfold decodeArm
  split
  · next h => exact decodesFrom_decodeUncond h
  · next h =>
    refine decodesFrom_decodeCond ?_ (Cond.bits_ofBits _).symm
    intro hnv
    rw [← Cond.bits_ofBits (w.extractLsb' 28 4), hnv] at h
    exact h rfl

/-- Every ARM word decodes to a well-formed instruction that encodes back to it (R304). -/
theorem decodeArm_sound (w : Word) : (decodeArm w).wellFormed = true ∧ encode (decodeArm w) = .arm w := by
  rcases decodesFrom_decodeArm w with h | h
  · rw [h]
    exact ⟨(decodeArm_eq_undefined w).1 h, rfl⟩
  · exact h

/-! ## Thumb halfwords (R304, R340) -/

/-- What the decoder's answer for a Thumb halfword must be: the halfword as an undefined instruction, or a well-formed
instruction that encodes to it. -/
def thumbDecodesFrom (i : Instr) (h : Half) : Prop :=
  i = .thumbUndefined h ∨ (i.wellFormed = true ∧ encode i = .thumb h)

theorem thumbDecodesFrom_of_fields {i : Instr} {v h : Half} (ks : List Nat) (hf : agreeOn v h 0 ks)
    (hv : encode i = .thumb v := by rfl) (hi : i.wellFormed = true := by rfl) (hks : ks.sum = 16 := by rfl) :
    thumbDecodesFrom i h :=
  .inr ⟨hi, by rw [hv, eq_of_agreeOn ks hks hf]⟩

section
variable {h : Half}

theorem thumbDecodesFrom_decodeThumbAlu (h10 : h.extractLsb' 10 6 = 0b010000#6) :
    thumbDecodesFrom (decodeThumbAlu h) h := by
  unfold decodeThumbAlu
  split
  case h_16 =>
    have h6 : h.extractLsb' 6 4 = 0xF#4 := by
      simp only [imp_false] at *
      bv_omega
    refine thumbDecodesFrom_of_fields [3, 3, 4, 6] ?_
    simp [encodeT33, BitVec.extractLsb'_or, extract_place_off, *]
  all_goals
    refine thumbDecodesFrom_of_fields [3, 3, 4, 6] ?_
    simp [encodeT33, BitVec.extractLsb'_or, extract_place_off, *]

theorem thumbDecodesFrom_decodeThumbHi (h10 : h.extractLsb' 10 6 = 0b010001#6) :
    thumbDecodesFrom (decodeThumbHi h) h := by
  simp only [decodeThumbHi, BitVec.getLsbD_eq_getElem, Nat.reduceLT]
  split
  case h_4 h0 h1 h2 =>
    have h8 := eq_three_of_ne h0 h1 h2
    split <;>
    · refine thumbDecodesFrom_of_fields [3, 3, 1, 1, 2, 6] ?_
      simp [encodeTHi, BitVec.extractLsb'_or, extract_place_off, *]
  all_goals
    refine thumbDecodesFrom_of_fields [3, 3, 1, 1, 2, 6] ?_
    simp [encodeTHi, BitVec.extractLsb'_or, extract_place_off, *]

theorem thumbDecodesFrom_decodeThumbLsReg (h12 : h.extractLsb' 12 4 = 0b0101#4) :
    thumbDecodesFrom (decodeThumbLsReg h) h := by
  unfold decodeThumbLsReg
  split
  case h_8 h0 h1 h2 h3 h4 h5 h6 =>
    have h9 := eq_seven_of_ne h0 h1 h2 h3 h4 h5 h6
    refine thumbDecodesFrom_of_fields [3, 3, 3, 3, 4] ?_
    simp [encodeT333, BitVec.extractLsb'_or, extract_place_off, *]
  all_goals
    refine thumbDecodesFrom_of_fields [3, 3, 3, 3, 4] ?_
    simp [encodeT333, BitVec.extractLsb'_or, extract_place_off, *]

theorem thumbDecodesFrom_decodeThumbMisc (h12 : h.extractLsb' 12 4 = 0b1011#4) :
    thumbDecodesFrom (decodeThumbMisc h) h := by
  simp only [decodeThumbMisc, BitVec.getLsbD_eq_getElem, Nat.reduceLT]
  have hf : placeBit 16 8 false = 0#16 := rfl
  have ht : placeBit 16 8 true = 0x0100#16 := rfl
  split
  case h_1 =>
    split <;>
    · refine thumbDecodesFrom_of_fields [7, 1, 4, 4] ?_
      simp [BitVec.extractLsb'_or, extract_place_off, *]
  case h_7 => exact .inl rfl
  all_goals
    refine thumbDecodesFrom_of_fields [8, 4, 4] ?_
    simp [BitVec.extractLsb'_or, extract_place_off, *]

theorem thumbDecodesFrom_decodeThumbBCond (h12 : h.extractLsb' 12 4 = 0b1101#4) :
    thumbDecodesFrom (decodeThumbBCond h) h := by
  unfold decodeThumbBCond
  split
  case h_1 => exact .inl rfl
  case h_2 =>
    refine thumbDecodesFrom_of_fields [8, 4, 4] ?_
    simp [BitVec.extractLsb'_or, extract_place_off, *]
  case h_3 hE hF =>
    have hwf : (Instr.thumbBCond (Cond.ofBits (h.extractLsb' 8 4)) (h.extractLsb' 0 8)).wellFormed = true := by
      generalize h.extractLsb' 8 4 = n at *
      simp only [Instr.wellFormed, Instr.condOk, Instr.formOk, Bool.and_true]
      revert n
      decide
    refine thumbDecodesFrom_of_fields [8, 4, 4] ?_ (hi := hwf)
    simp [BitVec.extractLsb'_or, extract_place_off, *]

theorem thumbDecodesFrom_decodeThumb : thumbDecodesFrom (decodeThumb h) h := by
  have top {k : BitVec 5} (hk : h.extractLsb' 11 5 = k) := extract_within hk (s := 12) (l := 4) (by omega)
  unfold decodeThumb
  dsimp only
  split
  case h_1 hk | h_2 hk | h_3 hk | h_13 hk | h_14 hk | h_15 hk | h_16 hk | h_17 hk | h_18 hk =>
    refine thumbDecodesFrom_of_fields [3, 3, 5, 5] ?_
    simp [encodeT5, BitVec.extractLsb'_or, extract_place_off, hk]
  case h_4 hk =>
    split
    case h_4 h0 h1 h2 =>
      have h9 := eq_three_of_ne h0 h1 h2
      refine thumbDecodesFrom_of_fields [3, 3, 3, 2, 5] ?_
      simp [encodeT333, BitVec.extractLsb'_or, extract_place_off, hk, h9]
    all_goals
      refine thumbDecodesFrom_of_fields [3, 3, 3, 2, 5] ?_
      simp [encodeT333, BitVec.extractLsb'_or, extract_place_off, *]
  case h_9 hk =>
    split
    · next h10 =>
      exact thumbDecodesFrom_decodeThumbHi
        (extract_eq_of_agreeOn (b := 0x4400#16) [1, 5] rfl (by simp_all))
    · next h10 =>
      exact thumbDecodesFrom_decodeThumbAlu
        (extract_eq_of_agreeOn (b := 0x4000#16) [1, 5] rfl (by simp_all))
  case h_11 hk | h_12 hk => exact thumbDecodesFrom_decodeThumbLsReg (top hk)
  case h_23 hk | h_24 hk => exact thumbDecodesFrom_decodeThumbMisc (top hk)
  case h_27 hk | h_28 hk => exact thumbDecodesFrom_decodeThumbBCond (top hk)
  case h_29 hk =>
    refine thumbDecodesFrom_of_fields [11, 5] ?_
    simp [BitVec.extractLsb'_or, extract_place_off, hk]
  case h_30 => exact .inl rfl
  all_goals
    refine thumbDecodesFrom_of_fields [8, 3, 5] ?_
    simp [encodeT38, BitVec.extractLsb'_or, extract_place_off, *]

end

/-- Every halfword that fetch runs alone decodes to a well-formed instruction that encodes back to it (R304). -/
theorem decodeThumb_sound {h : Half} (hp : isThumb32Prefix h = false) :
    (decodeThumb h).wellFormed = true ∧ encode (decodeThumb h) = .thumb h := by
  rcases thumbDecodesFrom_decodeThumb (h := h) with hu | hd
  · rw [hu]
    exact ⟨(decodeThumb_eq_undefined hp).1 hu, rfl⟩
  · exact hd

/-! ## 32-bit Thumb words (R304, R351) -/

/-- What the decoder's answer for a 32-bit Thumb word must be: a well-formed instruction that encodes to it. -/
def thumb32DecodesFrom (i : Instr) (w : Word) : Prop := i.wellFormed = true ∧ encode i = .thumb32 w

theorem thumb32DecodesFrom_of_fields {i : Instr} {v w : Word} (ks : List Nat) (hf : agreeOn v w 0 ks)
    (hv : encode i = .thumb32 v := by rfl) (hi : i.wellFormed = true := by rfl) (hks : ks.sum = 32 := by rfl) :
    thumb32DecodesFrom i w :=
  ⟨hi, by rw [hv, eq_of_agreeOn ks hks hf]⟩

section
variable {w : Word}

theorem thumb32DecodesFrom_decodeThumb32Misc (h27 : w.extractLsb' 27 5 = 0b11110#5) (h15 : w[15] = true)
    (h14 : w[14] = false) (h12 : w[12] = false) : thumb32DecodesFrom (decodeThumb32Misc w) w := by
  simp only [decodeThumb32Misc, BitVec.getLsbD_eq_getElem, Nat.reduceLT]
  split
  case isTrue h23 =>
    split
    case isTrue h26 =>
      split
      case isTrue h20 =>
        split <;>
        · refine thumb32DecodesFrom_of_fields [12, 1, 1, 1, 1, 4, 3, 3, 1, 5] ?_
          simp [BitVec.extractLsb'_or, extract_place_off, *]
      case isFalse h20 =>
        refine thumb32DecodesFrom_of_fields [12, 1, 1, 1, 1, 4, 3, 3, 1, 5] ?_ (hi := ?_)
        · simp [BitVec.extractLsb'_or, extract_place_off, *]
        · simpa [Instr.wellFormed, Instr.condOk, Instr.condOf, Instr.formOk] using h20
    case isFalse h26 =>
      split
      case h_2 | h_3 =>
        split <;>
        · refine thumb32DecodesFrom_of_fields [12, 1, 1, 1, 1, 4, 1, 2, 3, 1, 5] ?_
          simp [encodeT2Misc, BitVec.extractLsb'_or, extract_place_off, *]
      case h_1 =>
        refine thumb32DecodesFrom_of_fields [12, 1, 1, 1, 1, 5, 2, 3, 1, 5] ?_
        simp [encodeT2Misc, BitVec.extractLsb'_or, extract_place_off, *]
      case h_4 h0 h1 h2 =>
        have h21 := eq_three_of_ne h0 h1 h2
        refine thumb32DecodesFrom_of_fields [12, 1, 1, 1, 1, 5, 2, 3, 1, 5] ?_
        simp [encodeT2Misc, BitVec.extractLsb'_or, extract_place_off, *]
  case isFalse h23 =>
    refine thumb32DecodesFrom_of_fields [11, 1, 1, 1, 1, 1, 6, 4, 1, 5] ?_ (hi := ?_)
    · simp [BitVec.extractLsb'_or, extract_place_off, *]
    · rw [extract_within (lo := 22) (k := 4) rfl (by omega)] at h23
      simpa [Instr.wellFormed, Instr.condOk, Instr.condOf, Instr.formOk] using h23

/-- Every pair of halfwords that fetch joins decodes to a well-formed instruction that encodes back to it (R304). -/
theorem decodeThumb32_sound (hp : isThumb32Prefix (w.extractLsb' 16 16) = true) :
    ∃ i, decode (.thumb32 w) = .ok i ∧ i.wellFormed = true ∧ encode i = .thumb32 w := by
  obtain ⟨k, hk⟩ : ∃ k, w.extractLsb' 27 5 = k := ⟨_, rfl⟩
  rw [Laws.FetchLength.prefix_of_word hk] at hp
  simp only [decode, decodeThumb32, BitVec.getLsbD_eq_getElem, Nat.reduceLT, hk]
  split
  case h_1 | h_3 =>
    refine ⟨_, rfl, thumb32DecodesFrom_of_fields [27, 5] ?_⟩
    simp [BitVec.extractLsb'_or, extract_place_off, hk]
  case h_2 =>
    refine ⟨_, rfl, ?_⟩
    split_ifs with h15 h14 h12 h12
    · refine thumb32DecodesFrom_of_fields [11, 1, 1, 1, 1, 1, 10, 1, 5] ?_
      simp [encodeT2Branch, BitVec.extractLsb'_or, extract_place_off, *]
    · refine thumb32DecodesFrom_of_fields [1, 10, 1, 1, 1, 1, 1, 10, 1, 5] ?_
      simp [BitVec.extractLsb'_or, extract_place_off, *]
    · refine thumb32DecodesFrom_of_fields [11, 1, 1, 1, 1, 1, 10, 1, 5] ?_
      simp [encodeT2Branch, BitVec.extractLsb'_or, extract_place_off, *]
    · exact thumb32DecodesFrom_decodeThumb32Misc hk h15 (by simpa using h14) (by simpa using h12)
    · refine thumb32DecodesFrom_of_fields [15, 1, 11, 5] ?_
      simp [BitVec.extractLsb'_or, extract_place_off, *]
  case h_4 h1 h2 h3 =>
    simp only [Bool.or_eq_true, beq_iff_eq] at hp
    tauto
end

end Sys2Proof
end

section
/-! PROOFS. Every word decodes (O2), the bytes of an instruction decode to it (O3), the sample words (O4). -/

namespace Sys2Proof

/-- Settles O2, table by table: the fields of the decoded instruction, put back in their places, are the word. -/
theorem everyWordDecodes : Obligations.EveryWordDecodes := by
  unfold Obligations.EveryWordDecodes
  exact ⟨decodeArm_sound, fun _ => decodeThumb_sound, fun _ => decodeThumb32_sound⟩

/-! ## Bytes (R202, R300, R302) -/

/-- The first halfword of a 32-bit Thumb instruction, read on its own, is in no group of the 16-bit decoder. -/
theorem decodeThumb_of_isThumb32Prefix {h : Half} (hp : isThumb32Prefix h = true) : decodeThumb h = .thumbUndefined h := by
  simp only [isThumb32Prefix, Bool.or_eq_true, beq_iff_eq] at hp
  rcases hp with (hp | hp) | hp <;> simp [decodeThumb, hp]

/-- The decoder of 32-bit Thumb words refuses a word that fails the length test (R300). -/
theorem isThumb32Prefix_of_decodeThumb32 {w : Word} {i : Instr} (h : decodeThumb32 w = .ok i) :
    isThumb32Prefix (w.extractLsb' 16 16) = true := by
  rw [Laws.FetchLength.prefix_of_word rfl]
  unfold decodeThumb32 at h
  dsimp only at h
  split at h
  case h_4 => cases h
  case h_1 hk | h_2 hk | h_3 hk => simp [hk]

/-- An encoded well-formed instruction has the length that the fetch reads it with (R300). -/
theorem fetchLength (i : Instr) : Laws.FetchLength.Statement i := by
  intro hw
  have hd := decode_encode i hw
  split
  case h_1 => trivial
  case h_2 h he =>
    rw [he, decode, Except.ok.injEq] at hd
    by_contra hp
    rw [decodeThumb_of_isThumb32Prefix (by simpa using hp)] at hd
    subst hd
    exact hp (Laws.FetchLength.thumbUndefined h hw)
  case h_3 w he =>
    rw [he] at hd
    exact isThumb32Prefix_of_decodeThumb32 hd

/-- A halfword from its two bytes. -/
theorem append_bytes {n : Nat} (x : BitVec n) (lo : Nat) :
    x.extractLsb' (lo + 8) 8 ++ x.extractLsb' lo 8 = x.extractLsb' lo 16 :=
  BitVec.extractLsb'_append_extractLsb'_eq_extractLsb' (by omega)

/-- A word from its two halfwords. -/
theorem append_halves (w : Word) : w.extractLsb' 16 16 ++ w.extractLsb' 0 16 = w :=
  (BitVec.extractLsb'_append_extractLsb'_eq_extractLsb' (by omega)).trans BitVec.extractLsb'_eq_self

/-- The bytes of an encoded well-formed instruction are read back as its words. -/
theorem codeOfBytes_encode {i : Instr} (hw : i.wellFormed = true) (rest : List Byte) :
    codeOfBytes (encode i).isThumb ((encode i).bytes ++ rest) = .ok (encode i, rest) := by
  have hlen := fetchLength i hw
  split at hlen
  case h_1 w he =>
    simp [he, Code.bytes, Code.isThumb, codeOfBytes, append_bytes w 0, append_bytes w 16, append_halves]
  case h_2 h he =>
    simp [he, Code.bytes, Code.isThumb, codeOfBytes, append_bytes h 0, hlen]
  case h_3 w he =>
    simp [he, Code.bytes, Code.isThumb, codeOfBytes, append_bytes w 0, append_bytes w 16, append_halves, hlen]

/-- Settles O3: the length test delivers the encoded words, and the decoder gives the instruction back (O1). -/
theorem decodeOfBytes : Obligations.DecodeOfBytes := by
  unfold Obligations.DecodeOfBytes
  intro i rest hw
  simp [decodeBytes, codeOfBytes_encode hw, decode_encode i hw]

/-- Settles O4, by running the decoder on each word. -/
theorem sampleWords : Obligations.SampleWords := by
  unfold Obligations.SampleWords
  exact ⟨rfl, rfl, rfl, rfl, rfl, rfl, rfl, rfl⟩

end Sys2Proof
end

section
/-! PROOFS. SWP, SWPB and PLD (O23, O24). -/

namespace Sys2Proof.Machine

/-! ## SWP and SWPB (R520, R521) -/

/-- The swap once its tests have passed: the value stored and the address are read already. -/
def swapAccesses (n : AccSize) (result : Word → Word → Word) (rd : RegNum) (a v : Word) : Act Unit := do
  let priv ← look State.privileged
  let paR ← translateVa a n false priv true
  let paW ← translateVa a n false priv false
  probe (fun s => tryRead s n (n.align paR) && tryWrite s n (n.align paW)) .dataAbort .busSwap
  let t ← look fun s => s.mem.read n (n.align paR)
  change fun s => s.store n (n.align paW) v
  writeReg rd (result a t)

section
variable {s : State} {n : AccSize} {result : Word → Word → Word} {rn rd rm : RegNum} {sb : BitVec 4}

theorem swap_passed (hr : swapRestricted rn rd rm = false) :
    swap n result rn rd 0#4 rm s = swapAccesses n result rd (s.reg rn) (s.reg rm) s := by
  unfold swap
  rw [beq_self_eq_true, act_bind_ok (shouldBe_true s), hr, act_bind_ok (unpredictableIf_false _ s),
    act_bind_ok (readReg_apply rn s), act_bind_ok (readReg_apply rm s)]
  rfl

theorem swap_stops (h : sb ≠ 0#4 ∨ swapRestricted rn rd rm = true) :
    ∃ why, swap n result rn rd sb rm s = .error (.refused (.unpredictable why)) := by
  unfold swap
  by_cases hsb : sb = 0#4
  · subst hsb
    rw [beq_self_eq_true, act_bind_ok (shouldBe_true s), h.resolve_left (by simp)]
    exact ⟨_, act_bind_error (unpredictableIf_true _ s)⟩
  · rw [beq_false_of_ne hsb]
    exact ⟨_, act_bind_error (shouldBe_false s)⟩

variable {a v paR paW : Word}

theorem swapAccesses_ok (hR : s.loadsAt a n s.privileged paR) (hW : s.storesAt a n s.privileged paW) :
    swapAccesses n result rd a v s
      = .ok ((), (s.store n (n.align paW) v).setReg rd (result a (s.mem.read n (n.align paR)))) := by
  obtain ⟨hf, htR, hbR⟩ := hR
  obtain ⟨-, htW, hbW⟩ := hW
  have hprobe : probe (fun s => tryRead s n (n.align paR) && tryWrite s n (n.align paW)) .dataAbort .busSwap s
      = .ok ((), s) := by simp [probe, hbR, hbW]
  unfold swapAccesses
  rw [act_bind_ok (look_apply _ s), act_bind_ok (translateVa_ok hf htR), act_bind_ok (translateVa_ok hf htW),
    act_bind_ok hprobe, act_bind_ok (look_apply _ s), act_bind_ok (change_apply _ s), writeReg_apply]

variable (hf : s.faultFlag = false) (hp : s.pending = Pending.empty)
include hf hp

theorem swapAccesses_load_fault {st : FaultStatus} {dom : Option (BitVec 4)}
    (h : s.translation a n s.privileged true = .fault st dom) :
    swapAccesses n result rd a v s = .error (.raised ((s.recordFault a st dom).request .dataAbort .mmuFault)) := by
  unfold swapAccesses
  rw [act_bind_ok (look_apply _ s), act_bind_error (translateVa_fault hf hp h)]
  rfl

theorem swapAccesses_store_fault {st : FaultStatus} {dom : Option (BitVec 4)}
    (hR : s.translation a n s.privileged true = .ok paR) (h : s.translation a n s.privileged false = .fault st dom) :
    swapAccesses n result rd a v s = .error (.raised ((s.recordFault a st dom).request .dataAbort .mmuFault)) := by
  unfold swapAccesses
  rw [act_bind_ok (look_apply _ s), act_bind_ok (translateVa_ok hf hR), act_bind_error (translateVa_fault hf hp h)]
  rfl

theorem swapAccesses_unprobed (hR : s.translation a n s.privileged true = .ok paR)
    (hW : s.translation a n s.privileged false = .ok paW)
    (h : tryRead s n (n.align paR) = false ∨ tryWrite s n (n.align paW) = false) :
    swapAccesses n result rd a v s = .error (.raised (s.request .dataAbort .busSwap)) := by
  have hb : (tryRead s n (n.align paR) && tryWrite s n (n.align paW)) = false := by
    rcases h with h | h <;> simp [h]
  have hprobe : probe (fun s => tryRead s n (n.align paR) && tryWrite s n (n.align paW)) .dataAbort .busSwap s
      = .error (.raised (s.request .dataAbort .busSwap)) := by simp [probe, hb, raise_empty hp]
  unfold swapAccesses
  rw [act_bind_ok (look_apply _ s), act_bind_ok (translateVa_ok hf hR), act_bind_ok (translateVa_ok hf hW),
    act_bind_error hprobe]

end

section
variable {s : State} {c : Cond} (hc : condPassed c s.cpsr = true)
include hc

theorem exec_armSwp (rn rd : RegNum) (sb : BitVec 4) (rm : RegNum) :
    exec (.armSwp c rn rd sb rm) s = outcomeOf (swap .word rotateLoaded rn rd sb rm s) :=
  (runAct_outcomeOf _ s).trans (congrArg outcomeOf (whenPassed_passed hc _))

theorem exec_armSwpb (rn rd : RegNum) (sb : BitVec 4) (rm : RegNum) :
    exec (.armSwpb c rn rd sb rm) s = outcomeOf (swap .byte (fun _ t => t) rn rd sb rm s) :=
  (runAct_outcomeOf _ s).trans (congrArg outcomeOf (whenPassed_passed hc _))

/-- SWP and SWPB are one swap, at their own sizes. -/
theorem exec_swapForms {rn rd rm : RegNum} {x : Instr × AccSize}
    (hx : x ∈ [(Instr.armSwp c rn rd 0#4 rm, AccSize.word), (.armSwpb c rn rd 0#4 rm, .byte)])
    (hr : swapRestricted rn rd rm = false) :
    ∃ result, exec x.1 s = outcomeOf (swapAccesses x.2 result rd (s.reg rn) (s.reg rm) s) := by
  simp only [List.mem_cons, List.not_mem_nil, or_false] at hx
  rcases hx with rfl | rfl
  · exact ⟨_, by rw [exec_armSwp hc, swap_passed hr]⟩
  · exact ⟨_, by rw [exec_armSwpb hc, swap_passed hr]⟩

end

/-- Settles O23: both translations and both probes come before the read and the write. -/
theorem swapResult : Obligations.SwapResult := by
  unfold Obligations.SwapResult
  intro s c rn rd rm sb paR paW hc hwf
  refine ⟨fun hrd hrm hrn hnm hnd => ?_, fun h => ?_⟩
  · have hr : swapRestricted rn rd rm = false := by simp [swapRestricted, hrd, hrm, hrn, hnm, hnd]
    refine ⟨fun hR hW => ⟨_, storedAt_store hwf .word paW (s.reg rm), ?_⟩,
      fun hR hW => ⟨_, storedAt_store hwf .byte paW (s.reg rm), ?_⟩, fun st dom hf hp ht => ?_, fun x hx hf hp => ?_⟩
    · rw [exec_armSwp hc, swap_passed hr, swapAccesses_ok hR hW, outcomeOf_ok, rotateLoaded_eq]
      rfl
    · rw [exec_armSwpb hc, swap_passed hr, swapAccesses_ok hR hW, outcomeOf_ok]
      simp [Memory.read, AccSize.align]
    · rw [exec_armSwp hc, swap_passed hr, swapAccesses_load_fault hf hp ht, outcomeOf_raised]
    · obtain ⟨result, hexec⟩ := exec_swapForms hc hx hr
      rw [hexec]
      refine ⟨fun st dom ht => ?_, fun st dom hR ht => ?_, fun hR hW hb => ?_⟩
      · rw [swapAccesses_load_fault hf hp ht, outcomeOf_raised]
      · rw [swapAccesses_store_fault hf hp hR ht, outcomeOf_raised]
      · rw [swapAccesses_unprobed hf hp hR hW hb, outcomeOf_raised]
  · have hstop : sb ≠ 0#4 ∨ swapRestricted rn rd rm = true := by simpa [swapRestricted, or_assoc] using h
    have stop {o : Except Stop (Unit × State)} (ho : ∃ why, o = .error (.refused (.unpredictable why))) :
        ∃ why, outcomeOf o = .refused (.unpredictable why) := ho.imp fun _ h => by rw [h, outcomeOf_refused]
    rw [stopsUnpredictable, stopsUnpredictable, exec_armSwp hc, exec_armSwpb hc]
    exact ⟨stop (swap_stops hstop), stop (swap_stops hstop)⟩

/-! ## PLD (R522) -/

/-- Both forms of PLD look at the should-be-one field and at nothing else, not even at a condition. -/
theorem exec_pld (u : Bool) (rn rm : RegNum) (sb : BitVec 4) (off : BitVec 12) (amt : BitVec 5) (k : ShiftKind)
    (s : State) :
    exec (.armPldImm u rn sb off) s = outcomeOf (shouldBe (sb == 0xF#4) s)
      ∧ exec (.armPldReg u rn sb amt k rm) s = outcomeOf (shouldBe (sb == 0xF#4) s) :=
  ⟨runAct_outcomeOf _ s, runAct_outcomeOf _ s⟩

/-- Settles O24. -/
theorem preloadDoesNothing : Obligations.PreloadDoesNothing := by
  unfold Obligations.PreloadDoesNothing
  intro s u rn rm off amt k
  obtain ⟨himm, hreg⟩ := exec_pld u rn rm 0xF#4 off amt k s
  have hnext : outcomeOf (shouldBe (0xF#4 == 0xF#4) s) = .next s := rfl
  rw [himm, hreg, hnext]
  refine ⟨rfl, rfl, fun hj hf => ?_, fun sb hsb => ?_⟩
  · have hadv : (s.advance 4#32).endStep = { s with pc := s.pc + 4#32 } := by
      cases s
      dsimp only at hj hf
      subst hj hf
      rfl
    rw [afterExec_unchanged, hadv]
    exact ⟨rfl, rfl⟩
  · obtain ⟨himm, hreg⟩ := exec_pld u rn rm sb off amt k s
    rw [stopsUnpredictable, stopsUnpredictable, himm, hreg, beq_false_of_ne hsb]
    exact ⟨⟨_, rfl⟩, ⟨_, rfl⟩⟩

end Sys2Proof.Machine
end

section
/-! PROOFS. The adder and the shifter (O8, O9). -/

namespace Sys2Proof.Machine

/-! ## The adder (R405) -/

theorem addWithCarry_carry_iff (a b : Word) (c : Bool) :
    (addWithCarry a b c).carry = true ↔ 2 ^ 32 ≤ a.toNat + b.toNat + c.toNat := decide_eq_true_iff

theorem addWithCarry_overflow_iff_msb (a b : Word) (c : Bool) :
    (addWithCarry a b c).overflow = true ↔ a.msb = b.msb ∧ (addWithCarry a b c).result.msb ≠ a.msb := by
  simp [addWithCarry]

theorem toInt_word (x : Word) :
    x.toInt = if 2 ^ 31 ≤ x.toNat then (x.toNat : Int) - 2 ^ 32 else (x.toNat : Int) := by
  rw [BitVec.toInt_eq_msb_cond, BitVec.msb_eq_decide]
  simp only [decide_eq_true_iff]
  rfl

/-- The sign rule detects exactly the sums outside the signed range. -/
theorem addWithCarry_overflow_iff_range (a b : Word) (c : Bool) :
    (addWithCarry a b c).overflow = true
      ↔ a.toInt + b.toInt + c.toNat < -2 ^ 31 ∨ 2 ^ 31 ≤ a.toInt + b.toInt + c.toNat := by
  have hr := addWithCarry_result_toNat a b c
  have hc := c.toNat_le
  have ha := a.isLt
  have hb := b.isLt
  simp only [addWithCarry_overflow_iff_msb, toInt_word a, toInt_word b, BitVec.msb_eq_decide, ne_eq,
    decide_eq_decide, hr]
  split_ifs <;> omega

theorem toInt_not_word (b : Word) : (~~~b).toInt = -b.toInt - 1 := by
  have hb := b.isLt
  rw [toInt_word (~~~b), toInt_word b, BitVec.toNat_not]
  split_ifs <;> omega

theorem addWithCarry_add (a b : Word) : (addWithCarry a b false).result = a + b := by
  apply BitVec.eq_of_toNat_eq
  rw [addWithCarry_result_toNat, BitVec.toNat_add]
  rfl

theorem addWithCarry_sub (a b : Word) : (addWithCarry a (~~~b) true).result = a - b := by
  have hb := b.isLt
  apply BitVec.eq_of_toNat_eq
  rw [addWithCarry_result_toNat, BitVec.toNat_sub, BitVec.toNat_not, Bool.toNat_true]
  congr 1
  omega

theorem toNat_not_bool (c : Bool) : (!c).toNat + c.toNat = 1 := by cases c <;> rfl

/-- The carry of a subtraction is NOT borrow. -/
theorem addWithCarry_not_carry_iff (a b : Word) (c : Bool) :
    (addWithCarry a (~~~b) c).carry = true ↔ b.toNat + (!c).toNat ≤ a.toNat := by
  have hb := b.isLt
  have hc := toNat_not_bool c
  rw [addWithCarry_carry_iff, BitVec.toNat_not]
  omega

theorem addWithCarry_not_overflow_iff (a b : Word) (c : Bool) :
    (addWithCarry a (~~~b) c).overflow = true
      ↔ a.toInt - b.toInt - (!c).toNat < -2 ^ 31 ∨ 2 ^ 31 ≤ a.toInt - b.toInt - (!c).toNat := by
  have hsum : a.toInt + (~~~b).toInt + c.toNat = a.toInt - b.toInt - (!c).toNat := by
    have hc := toNat_not_bool c
    rw [toInt_not_word]
    omega
  rw [addWithCarry_overflow_iff_range, hsum]

/-- Settles O8. -/
theorem adderIsExact : Obligations.AdderIsExact := by
  unfold Obligations.AdderIsExact
  intro a b c
  exact ⟨rfl, addWithCarry_carry_iff a b c, addWithCarry_overflow_iff_msb a b c,
    addWithCarry_overflow_iff_range a b c, addWithCarry_add a b, addWithCarry_sub a b,
    addWithCarry_not_carry_iff a b c, addWithCarry_not_overflow_iff a b c⟩

/-! ## Rotation (R9, R401) -/

/-- ROR moves bit i + n, counted round the word, to bit i. -/
theorem getLsbD_ror (v : Word) (n : Nat) {i : Nat} (hi : i < 32) : (ror v n).getLsbD i = v.getLsbD ((i + n) % 32) := by
  unfold ror
  rw [BitVec.getLsbD_rotateRight, decide_eq_true hi, Bool.true_and]
  by_cases h : i < 32 - n % 32
  · rw [decide_eq_true h, cond_true, show n % 32 + i = (i + n) % 32 by omega]
  · rw [decide_eq_false h, cond_false, show i - (32 - n % 32) = (i + n) % 32 by omega]

theorem ror_mod (v : Word) (n : Nat) : ror v (n % 32) = ror v n := BitVec.rotateRight_mod_eq_rotateRight

/-! ## Register shifts (R403) -/

theorem toInt_sshiftRight_word (v : Word) (n : Nat) : (v.sshiftRight n).toInt = v.toInt / 2 ^ n := by
  rw [BitVec.toInt_sshiftRight, Int.shiftRight_eq_div_pow]
  norm_cast

/-- Shifting right by the whole width or more leaves copies of the sign bit. -/
theorem signFill_eq_sshiftRight (v : Word) {n : Nat} (hn : 32 ≤ n) : signFill v = v.sshiftRight n := by
  apply BitVec.eq_of_getLsbD_eq
  intro i hi
  rw [BitVec.getLsbD_sshiftRight, decide_eq_false hi.not_ge, if_neg (by omega), signFill]
  cases v.msb
  · exact BitVec.getLsbD_zero
  · exact (BitVec.getLsbD_allOnes (v := 32)).trans (decide_eq_true hi)

section
variable {s : Byte} (hs : s ≠ 0#8) (v : Word) (c : Bool)
include hs

theorem toNat_amount_pos : 0 < s.toNat :=
  Nat.pos_of_ne_zero fun h => hs (BitVec.eq_of_toNat_eq h)

theorem shiftReg_lsl :
    (shiftReg .lsl s v c).value.toNat = v.toNat * 2 ^ s.toNat % 2 ^ 32
      ∧ (shiftReg .lsl s v c).carry = (decide (s.toNat ≤ 32) && v.getLsbD (32 - s.toNat)) := by
  have hpos := toNat_amount_pos hs
  simp only [shiftReg, hpos.ne', if_false]
  rcases lt_trichotomy s.toNat 32 with h | h | h
  · simp [h, h.le, Nat.shiftLeft_eq]
  · simp [h]
  · have hz : v.toNat * 2 ^ s.toNat % 2 ^ 32 = 0 :=
      Nat.mod_eq_zero_of_dvd (Dvd.dvd.mul_left (pow_dvd_pow 2 h.le) _)
    rw [if_neg h.not_gt, if_neg h.ne', hz, decide_eq_false h.not_ge]
    exact ⟨rfl, rfl⟩

theorem shiftReg_lsr :
    (shiftReg .lsr s v c).value.toNat = v.toNat / 2 ^ s.toNat
      ∧ (shiftReg .lsr s v c).carry = v.getLsbD (s.toNat - 1) := by
  have hpos := toNat_amount_pos hs
  have hzero (h : 32 ≤ s.toNat) : v.toNat / 2 ^ s.toNat = 0 :=
    Nat.div_eq_of_lt (v.isLt.trans_le (Nat.pow_le_pow_right two_pos h))
  simp only [shiftReg, hpos.ne', if_false]
  rcases lt_trichotomy s.toNat 32 with h | h | h
  · simp [h, Nat.shiftRight_eq_div_pow]
  · rw [if_neg h.not_lt, if_pos h, hzero h.ge, h]
    exact ⟨rfl, rfl⟩
  · rw [if_neg h.not_gt, if_neg h.ne', hzero h.le, BitVec.getLsbD_of_ge _ _ (by omega)]
    exact ⟨rfl, rfl⟩

theorem shiftReg_asr :
    (shiftReg .asr s v c).value.toInt = v.toInt / 2 ^ s.toNat
      ∧ (shiftReg .asr s v c).carry = v.getLsbD (min s.toNat 32 - 1) := by
  have hpos := toNat_amount_pos hs
  simp only [shiftReg, hpos.ne', if_false]
  split
  · next h =>
    rw [min_eq_left h.le]
    exact ⟨toInt_sshiftRight_word v _, rfl⟩
  · next h =>
    rw [min_eq_right (not_lt.1 h), signFill_eq_sshiftRight v (not_lt.1 h)]
    exact ⟨toInt_sshiftRight_word v _, rfl⟩

theorem shiftReg_ror :
    (∀ i, i < 32 → (shiftReg .ror s v c).value.getLsbD i = v.getLsbD ((i + s.toNat) % 32))
      ∧ (shiftReg .ror s v c).carry = v.getLsbD ((s.toNat - 1) % 32) := by
  have hpos := toNat_amount_pos hs
  simp only [shiftReg, hpos.ne', if_false]
  split
  · next h =>
    refine ⟨fun i hi => ?_, ?_⟩
    · rw [show (i + s.toNat) % 32 = i by omega]
    · rw [show (s.toNat - 1) % 32 = 31 by omega]
      rfl
  · next h =>
    refine ⟨fun i hi => ?_, ?_⟩
    · rw [ror_mod, getLsbD_ror v _ hi]
    · rw [show (s.toNat - 1) % 32 = s.toNat % 32 - 1 by omega]

end

theorem shiftReg_zero (k : ShiftKind) (v : Word) (c : Bool) : shiftReg k 0#8 v c = ⟨v, c⟩ := rfl

/-! ## Immediate shifts (R402) -/

theorem shiftImm_eq_shiftReg (k : ShiftKind) {n : BitVec 5} (v : Word) (c : Bool) (hn : n ≠ 0#5) :
    shiftImm k n v c = shiftReg k (n.setWidth 8) v c := by
  have hpos : n.toNat ≠ 0 := fun h => hn (BitVec.eq_of_toNat_eq h)
  have hlt : n.toNat < 32 := n.isLt
  have hamt : (n.setWidth 8).toNat = n.toNat := BitVec.toNat_setWidth_of_le (by decide)
  simp only [shiftImm, shiftReg, hamt, if_neg hpos, if_pos hlt, Nat.mod_eq_of_lt hlt]

theorem shiftImm_rrx_toNat (v : Word) (c : Bool) :
    (shiftImm .ror 0#5 v c).value.toNat = (if c then 2 ^ 31 else 0) + v.toNat / 2 := by
  have hv : v.toNat / 2 < 2 ^ 31 := by omega
  have hval : (shiftImm .ror 0#5 v c).value.toNat = (if c then 2 ^ 31 else 0) ||| v.toNat / 2 := by
    cases c <;> simp [shiftImm, Nat.shiftRight_eq_div_pow]
  rw [hval]
  cases c
  · simp
  · exact (Nat.two_pow_add_eq_or_of_lt hv 1).symm

/-! ## The shifter operand (R400, R401) -/

theorem getLsbD_rotatedImm (rot : BitVec 4) (imm8 : BitVec 8) {i : Nat} (hi : i < 32) :
    (rotatedImm rot imm8).getLsbD i = imm8.getLsbD ((i + 2 * rot.toNat) % 32) := by
  rw [rotatedImm, getLsbD_ror _ _ hi, BitVec.getLsbD_setWidth, decide_eq_true (Nat.mod_lt _ (by decide)), Bool.true_and]

/-- Settles O9. -/
theorem shiftsAreExact : Obligations.ShiftsAreExact := by
  unfold Obligations.ShiftsAreExact
  refine ⟨fun s v c hs => ⟨shiftReg_lsl hs v c, shiftReg_lsr hs v c, shiftReg_asr hs v c, shiftReg_ror hs v c⟩,
    shiftReg_zero, fun k n v c hn => shiftImm_eq_shiftReg k v c hn,
    fun v c => ⟨rfl, rfl, rfl, shiftImm_rrx_toNat v c, rfl⟩,
    fun _ _ _ _ _ rot imm8 => ⟨rfl, rfl, rfl, fun i hi => getLsbD_rotatedImm rot imm8 hi, rfl⟩⟩

end Sys2Proof.Machine
end

section
/-! PROOFS. ARM data processing into a register, and the tests (O10, O11, O12, O14). -/

namespace Sys2Proof.Machine

section
variable {s : State} {c : Cond} {sf : Bool} {rn rd : RegNum} {op2 : Operand2}

/-! ## Operations with a destination (R406) -/

/-- The state after an operation's output is written to Rd, the flags with it when S is 1. -/
def State.dpTo (s : State) (op : DpOp) (sf : Bool) (rd : RegNum) (o : AluOut) : State :=
  if op.arithmetic then s.arithTo sf rd o else s.logicalTo sf rd o.result o.carry

theorem State.dpTo_eq (s : State) (op : DpOp) (sf : Bool) (rd : RegNum) (o : AluOut) :
    s.dpTo op sf rd o = { s.setReg rd o.result with cpsr := if sf then op.flags o s.cpsr else s.cpsr } := by
  unfold State.dpTo DpOp.flags
  cases op.arithmetic <;> rfl

theorem State.setReg_cpsr_eta (s : State) (n : RegNum) (v : Word) :
    { s.setReg n v with cpsr := s.cpsr } = s.setReg n v := by
  unfold State.setReg
  split <;> rfl

theorem dataProcessing_reg (op : DpOp) (hr : regShiftUsesPc rn rd op2 = false) (hrd : rd ≠ 15#4) :
    dataProcessing op sf rn rd op2 s = .ok ((), s.dpTo op sf rd (s.dpOut op rn op2)) := by
  unfold dataProcessing
  rw [hr, act_bind_ok (unpredictableIf_false _ s), act_bind_ok (look_apply _ s), if_neg hrd,
    act_bind_ok (writeReg_apply _ _ s), State.dpTo_eq]
  cases sf
  · exact congrArg (fun t : State => Except.ok ((), t)) (s.setReg_cpsr_eta rd _).symm
  · simp

theorem dataProcessing_usesPc (op : DpOp) (hr : regShiftUsesPc rn rd op2 = true) :
    dataProcessing op sf rn rd op2 s = .error (.refused (.unpredictable .r15RegisterShift)) := by
  unfold dataProcessing
  rw [hr, act_bind_error (unpredictableIf_true _ s)]

/-- The form runs the operation it is listed with, into Rd. -/
def runsOperation (s : State) (sf : Bool) (rn rd : RegNum) (op2 : Operand2) (f : Instr × DpOp) : Prop :=
  exec f.1 s = outcomeOf (dataProcessing f.2 sf rn rd op2 s)

/-- Every form with a destination, its condition passed; MOV and MVN with their first operand field zero. -/
theorem runsOperation_of_passed (hc : condPassed c s.cpsr = true) :
    (∀ f ∈ dpForms c sf rn rd op2, runsOperation s sf rn rd op2 f)
      ∧ ∀ f ∈ moveForms c sf rd op2, runsOperation s sf 0#4 rd op2 f := by
  refine ⟨fun f hf => ?_, fun f hf => ?_⟩
  · rw [runsOperation, exec_dpForms hf, runAct_outcomeOf, whenPassed_passed hc]
  · rw [runsOperation, (exec_moveForms hf s).2, runAct_outcomeOf, whenPassed_passed hc]

theorem forall_exec_reg {l : List (Instr × DpOp)} (hl : ∀ f ∈ l, runsOperation s sf rn rd op2 f)
    (hr : regShiftUsesPc rn rd op2 = false) (hrd : rd ≠ 15#4) :
    l.Forall fun f => exec f.1 s = .next (s.dpTo f.2 sf rd (s.dpOut f.2 rn op2)) :=
  List.forall_iff_forall_mem.2 fun f hf => by rw [hl f hf, dataProcessing_reg _ hr hrd, outcomeOf_ok]

theorem forall_exec_usesPc {l : List (Instr × DpOp)} (hl : ∀ f ∈ l, runsOperation s sf rn rd op2 f)
    (hr : regShiftUsesPc rn rd op2 = true) :
    l.Forall fun f => exec f.1 s = .refused (.unpredictable .r15RegisterShift) :=
  List.forall_iff_forall_mem.2 fun f hf => by rw [hl f hf, dataProcessing_usesPc _ hr, outcomeOf_refused]

/-- MOV and MVN look at their should-be-zero field first (R306, R407). -/
theorem exec_move_shouldBe (hc : condPassed c s.cpsr = true) {sb : BitVec 4} (hsb : sb ≠ 0#4) :
    exec (.armMov c sf sb rd op2) s = .refused (.unpredictable .shouldBeField)
      ∧ exec (.armMvn c sf sb rd op2) s = .refused (.unpredictable .shouldBeField) := by
  have hstop (m : Act Unit) :
      runAct (whenPassed c (do shouldBe (sb == 0#4); m)) s = .refused (.unpredictable .shouldBeField) := by
    rw [runAct_shouldBe hc, beq_false_of_ne hsb]
    rfl
  exact ⟨hstop _, hstop _⟩

/-! ## The tests (R406, R407) -/

/-- The four tests, with the operation each makes. -/
def testForms (c : Cond) (rn : RegNum) (sb : BitVec 4) (op2 : Operand2) : List (Instr × DpOp) :=
  [(.armTst c rn sb op2, .tst), (.armTeq c rn sb op2, .teq), (.armCmp c rn sb op2, .cmp), (.armCmn c rn sb op2, .cmn)]

/-- A test looks at its should-be-zero field, then runs the operation it is listed with. -/
theorem exec_testForms {sb : BitVec 4} (hc : condPassed c s.cpsr = true) {f : Instr × DpOp}
    (hf : f ∈ testForms c rn sb op2) :
    exec f.1 s
      = if sb = 0#4 then outcomeOf (dataTest f.2 rn op2 s) else .refused (.unpredictable .shouldBeField) := by
  have hexec : exec f.1 s = runAct (whenPassed c (do shouldBe (sb == 0#4); dataTest f.2 rn op2)) s := by
    simp only [testForms, List.mem_cons, List.not_mem_nil, or_false] at hf
    rcases hf with rfl | rfl | rfl | rfl <;> rfl
  rw [hexec, runAct_shouldBe hc]
  simp only [beq_iff_eq]

theorem dataTest_flags (op : DpOp) (hr : regShiftUsesPc rn 0#4 op2 = false) :
    dataTest op rn op2 s = .ok ((), { s with cpsr := op.flags (s.dpOut op rn op2) s.cpsr }) := by
  unfold dataTest
  rw [hr, act_bind_ok (unpredictableIf_false _ s), act_bind_ok (look_apply _ s), setCpsrFlags_apply]

theorem dataTest_usesPc (op : DpOp) (hr : regShiftUsesPc rn 0#4 op2 = true) :
    dataTest op rn op2 s = .error (.refused (.unpredictable .r15RegisterShift)) := by
  unfold dataTest
  rw [hr, act_bind_error (unpredictableIf_true _ s)]

end

/-! ## The statements -/

/-- Settles O10. -/
theorem logicalResult : Obligations.LogicalResult := by
  unfold Obligations.LogicalResult
  intro s c sf rn rd op2 hc
  obtain ⟨hdp, hmove⟩ := runsOperation_of_passed (sf := sf) (rn := rn) (rd := rd) (op2 := op2) hc
  refine ⟨⟨fun hr hrd => ?_, forall_exec_reg hmove⟩, fun hr => ?_, forall_exec_usesPc hmove, fun sb hsb => ?_⟩
  · obtain ⟨hand, heor, -, -, -, -, -, -, horr, hbic⟩ := forall_exec_reg hdp hr hrd
    exact ⟨hand, heor, horr, hbic⟩
  · obtain ⟨hand, heor, -, -, -, -, -, -, horr, hbic⟩ := forall_exec_usesPc hdp hr
    exact ⟨hand, heor, horr, hbic⟩
  · obtain ⟨hmov, hmvn⟩ := exec_move_shouldBe (sf := sf) (rd := rd) (op2 := op2) hc hsb
    exact ⟨⟨_, hmov⟩, ⟨_, hmvn⟩⟩

/-- Settles O11. -/
theorem arithmeticResult : Obligations.ArithmeticResult := by
  unfold Obligations.ArithmeticResult
  intro s c sf rn rd op2 hc
  obtain ⟨hdp, -⟩ := runsOperation_of_passed (sf := sf) (rn := rn) (rd := rd) (op2 := op2) hc
  refine ⟨fun hr hrd => ?_, fun hr => ?_⟩
  · obtain ⟨-, -, hsub, hrsb, hadd, hadc, hsbc, hrsc, -⟩ := forall_exec_reg hdp hr hrd
    exact ⟨hsub, hrsb, hadd, hadc, hsbc, hrsc⟩
  · obtain ⟨-, -, hsub, hrsb, hadd, hadc, hsbc, hrsc, -⟩ := forall_exec_usesPc hdp hr
    exact ⟨hsub, hrsb, hadd, hadc, hsbc, hrsc⟩

/-- Settles O12. -/
theorem testResult : Obligations.TestResult := by
  unfold Obligations.TestResult
  intro s c rn sb op2 hc
  refine ⟨fun hr => ?_, fun hsb => ?_, fun hr => ?_⟩
  · have hnext (f) (hf : f ∈ testForms c rn 0#4 op2) :
        exec f.1 s = .next { s with cpsr := f.2.flags (s.dpOut f.2 rn op2) s.cpsr } := by
      rw [exec_testForms hc hf, if_pos rfl, dataTest_flags _ hr, outcomeOf_ok]
    exact List.forall_iff_forall_mem.2 hnext
  · have hstop (f) (hf : f ∈ testForms c rn sb op2) : exec f.1 s = .refused (.unpredictable .shouldBeField) := by
      rw [exec_testForms hc hf, if_neg hsb]
    exact List.forall_iff_forall_mem.2 hstop
  · have hstop (f) (hf : f ∈ testForms c rn sb op2) : stopsUnpredictable f.1 s := by
      rw [stopsUnpredictable, exec_testForms hc hf, dataTest_usesPc _ hr]
      split <;> exact ⟨_, rfl⟩
    exact List.forall_iff_forall_mem.2 hstop

/-! ## The round trip of ADD and SUB (R426) -/

theorem addWithCarry_roundTrip (a b : Word) :
    (addWithCarry (addWithCarry a b false).result (~~~b) true).result = a := by
  rw [addWithCarry_sub, addWithCarry_add, BitVec.add_sub_cancel]

theorem State.arithTo_mode (s : State) (sf : Bool) (rd : RegNum) (o : AluOut) :
    (s.arithTo sf rd o).mode = s.mode := by
  refine (State.mode_congr ?_).1
  cases sf
  · rfl
  · exact psrM_withNZCV _ _ _ _ _

/-- Flag writes keep the mode, so the registers after arithTo read as after setReg. -/
theorem State.reg_arithTo (s : State) (sf : Bool) {rd : RegNum} (o : AluOut) {n : RegNum} (hrd : rd ≠ 15#4)
    (hn : n ≠ 15#4) :
    (s.arithTo sf rd o).reg n = if n = rd then o.result else s.reg n := by
  obtain ⟨p, hp⟩ := s.mode.cell_some hn
  rw [← s.reg_setReg rd n _ hrd, State.reg_of_cell (p := p) (by rw [State.arithTo_mode, hp]),
    State.reg_of_cell (p := p) (by rw [State.setReg_mode, hp])]
  rfl

/-- A second result into Rd overwrites the first; where it is the old value of Rd, every cell is as before. -/
theorem State.arithTo_arithTo_regs (s : State) (sf sf' : Bool) {rd : RegNum} (o o' : AluOut) (hrd : rd ≠ 15#4)
    (h : o'.result = s.reg rd) : ((s.arithTo sf rd o).arithTo sf' rd o').regs = s.regs := by
  obtain ⟨p, hp⟩ := s.mode.cell_some hrd
  have hp' : (s.arithTo sf rd o).mode.cell rd = some p := by rw [State.arithTo_mode, hp]
  have hregs : ((s.arithTo sf rd o).arithTo sf' rd o').regs = (s.regs.set p o.result).set p o'.result := by
    rw [State.arithTo, State.setReg_of_cell _ hp', State.arithTo, State.setReg_of_cell _ hp]
  rw [hregs, h, State.reg_of_cell hp]
  refine Regs.ext_get fun q => ?_
  rw [Regs.get_set, Regs.get_set]
  split_ifs with hq
  · rw [hq]
  · rfl

/-- Settles O14: after ADD has written Rd, SUB reads the sum from it and the same second operand. -/
theorem addSubRoundTrip : Obligations.AddSubRoundTrip := by
  unfold Obligations.AddSubRoundTrip
  refine ⟨addWithCarry_roundTrip, fun s sf sf' rd rm rot imm8 op2 hrd hop => ?_⟩
  have hr : regShiftUsesPc rd rd op2 = false := by
    rcases hop with ⟨rfl, -, -⟩ | rfl <;> rfl
  obtain ⟨-, -, hadd, -⟩ := (arithmeticResult s .al sf rd rd op2 rfl).1 hr hrd
  generalize ho : addWithCarry (s.reg rd) (s.shifterOperand op2).value false = o at hadd
  obtain ⟨hsub, -⟩ := (arithmeticResult (s.arithTo sf rd o) .al sf' rd rd op2 rfl).1 hr hrd
  refine ⟨_, _, hadd, hsub, ?_⟩
  have hval : ((s.arithTo sf rd o).shifterOperand op2).value = (s.shifterOperand op2).value := by
    rcases hop with ⟨rfl, hrm, hne⟩ | rfl
    · exact (s.reg_arithTo sf o hrd hrm).trans (if_neg hne)
    · rfl
  have hback :
      (addWithCarry ((s.arithTo sf rd o).reg rd) (~~~((s.arithTo sf rd o).shifterOperand op2).value) true).result
        = s.reg rd := by
    rw [hval, s.reg_arithTo sf o hrd hrd, if_pos rfl, ← ho, addWithCarry_roundTrip]
  refine ⟨?_, s.arithTo_arithTo_regs sf sf' _ _ hrd hback⟩
  rw [State.reg_arithTo _ _ _ hrd hrd, if_pos rfl, hback]

end Sys2Proof.Machine
end

section
/-! PROOFS. ARM multiplies, and the instructions that the core refuses (O15, O16, O17). -/

namespace Sys2Proof.Machine

/-! ## Products in exact arithmetic (R451 to R456) -/

theorem product32_eq_ofNat (a b addend : Word) :
    product32 a b addend = BitVec.ofNat 32 (a.toNat * b.toNat + addend.toNat) := by
  rw [product32, BitVec.ofNat_add, BitVec.ofNat_mul, BitVec.ofNat_toNat, BitVec.ofNat_toNat, BitVec.ofNat_toNat]
  rfl

theorem productU_eq_ofNat (a b : Word) : productU a b = BitVec.ofNat 64 (a.toNat * b.toNat) := by
  rw [BitVec.ofNat_mul, BitVec.ofNat_toNat, BitVec.ofNat_toNat]
  rfl

theorem productS_eq_ofInt (a b : Word) : productS a b = BitVec.ofInt 64 (a.toInt * b.toInt) := by
  rw [BitVec.ofInt_mul]
  rfl

theorem State.pair_eq_ofNat (s : State) (rdHi rdLo : RegNum) :
    s.pair rdHi rdLo = BitVec.ofNat 64 ((s.reg rdHi).toNat * 2 ^ 32 + (s.reg rdLo).toNat) := by
  have hlo : (s.reg rdLo).toNat < 2 ^ 32 := (s.reg rdLo).isLt
  rw [← Nat.shiftLeft_eq, Nat.shiftLeft_add_eq_or_of_lt hlo]
  have hhi : (s.reg rdHi).toNat % 2 ^ 64 = (s.reg rdHi).toNat := by omega
  apply BitVec.eq_of_toNat_eq
  rw [State.pair, BitVec.toNat_or, BitVec.toNat_shiftLeft, BitVec.toNat_setWidth, BitVec.toNat_setWidth, hhi,
    BitVec.toNat_ofNat, Nat.or_mod_two_pow]

/-! ## What the multiplies write -/

/-- The state after a 32-bit product is written to Rd, N and Z with it when S is 1 (R451, R452). -/
def State.productTo (s : State) (sf : Bool) (rd : RegNum) (r : Word) : State :=
  { s.setReg rd r with cpsr := if sf then nzFlags s.cpsr r else s.cpsr }

/-- The state after a 64-bit product is written to the pair RdHi and RdLo, N and Z with it when S is 1 (R453 to
R456). -/
def State.longTo (s : State) (sf : Bool) (rdHi rdLo : RegNum) (p : DWord) : State :=
  { (s.setReg rdHi (p.extractLsb' 32 32)).setReg rdLo (p.extractLsb' 0 32) with
    cpsr := if sf then nzFlags64 s.cpsr p else s.cpsr }

theorem setCpsrFlags_if_apply (sf : Bool) (f : Word → Word) (s : State) :
    (if sf then setCpsrFlags f else pure () : Act Unit) s
      = .ok ((), { s with cpsr := if sf then f s.cpsr else s.cpsr }) := by
  cases sf <;> rfl

theorem writeProduct_apply (sf : Bool) (rd : RegNum) (r : Word) (s : State) :
    writeProduct sf rd r s = .ok ((), s.productTo sf rd r) := by
  unfold writeProduct
  rw [act_bind_ok (writeReg_apply _ _ s), setCpsrFlags_if_apply, State.setReg_cpsr]
  rfl

theorem writeLong_apply (sf : Bool) (rdHi rdLo : RegNum) (p : DWord) (s : State) :
    writeLong sf rdHi rdLo p s = .ok ((), s.longTo sf rdHi rdLo p) := by
  unfold writeLong
  rw [act_bind_ok (writeReg_apply _ _ s), act_bind_ok (writeReg_apply _ _ _), setCpsrFlags_if_apply,
    State.setReg_cpsr, State.setReg_cpsr]
  rfl

/-! ## MUL and MLA (R450 to R452) -/

/-- A restriction is tested before the registers are read (R450). -/
theorem outcomeOf_unpredictableIf (b : Bool) (w : UnpredictableReason) (m : Act Unit) (s : State) :
    outcomeOf ((do unpredictableIf b w; m : Act Unit) s)
      = if b then .refused (.unpredictable w) else outcomeOf (m s) := by
  cases b
  · rw [act_bind_ok (unpredictableIf_false w s)]
    rfl
  · rw [act_bind_error (unpredictableIf_true w s), if_pos rfl, outcomeOf_refused]

section
variable {s : State} {c : Cond} (hc : condPassed c s.cpsr = true)
include hc

theorem exec_armMul (sf : Bool) (rd : RegNum) (sb : BitVec 4) (rs rm : RegNum) :
    exec (.armMul c sf rd sb rs rm) s
      = if sb = 0#4 then
          if anyPc [rd, rs, rm] || rd == rm then .refused (.unpredictable .multiplyRegisters)
          else .next (s.productTo sf rd (product32 (s.reg rm) (s.reg rs) 0#32))
        else .refused (.unpredictable .shouldBeField) := by
  refine (runAct_shouldBe hc _ _).trans ?_
  rw [outcomeOf_unpredictableIf, act_bind_ok (look_apply _ s), writeProduct_apply, outcomeOf_ok]
  simp only [beq_iff_eq]

theorem exec_armMla (sf : Bool) (rd rn rs rm : RegNum) :
    exec (.armMla c sf rd rn rs rm) s
      = if anyPc [rd, rn, rs, rm] || rd == rm then .refused (.unpredictable .multiplyRegisters)
        else .next (s.productTo sf rd (product32 (s.reg rm) (s.reg rs) (s.reg rn))) := by
  refine (runAct_outcomeOf _ s).trans ?_
  rw [whenPassed_passed hc, outcomeOf_unpredictableIf, act_bind_ok (look_apply _ s), writeProduct_apply, outcomeOf_ok]

/-! ## The long multiplies (R450, R453 to R456) -/

/-- A long multiply stops on a restricted register, or writes its result. -/
theorem runAct_longMultiply (product : Word → Word → DWord) (accumulate sf : Bool) (rdHi rdLo rs rm : RegNum) :
    runAct (whenPassed c (longMultiply product accumulate sf rdHi rdLo rs rm)) s
      = if longRestricted rdHi rdLo rs rm then .refused (.unpredictable .multiplyRegisters)
        else .next (s.longTo sf rdHi rdLo
          (product (s.reg rm) (s.reg rs) + if accumulate then s.pair rdHi rdLo else 0#64)) := by
  unfold longMultiply
  rw [runAct_outcomeOf, whenPassed_passed hc, outcomeOf_unpredictableIf, act_bind_ok (look_apply _ s),
    writeLong_apply, outcomeOf_ok]

/-! ## The forms that the core refuses (R457, R851, R852, R854 to R858) -/

theorem refuseDsp_passed (sb : BitVec 4) :
    refuseDsp c sb s
      = if sb = 0#4 then .refused (.unsupported .dspInstruction) else .refused (.unpredictable .shouldBeField) := by
  refine (runAct_shouldBe hc _ _).trans ?_
  simp only [beq_iff_eq, stopUnsupported_apply, outcomeOf_refused]

end

theorem runAct_stopUnsupported (w : UnsupportedReason) (s : State) :
    runAct (stopUnsupported w) s = .refused (.unsupported w) := rfl

theorem exec_thumb32Branch_range {j1 j2 : Bool} (hj : (j1 && j2) = false) (sg h : Bool) (i10 l10 : BitVec 10)
    (i11 : BitVec 11) (s : State) :
    exec (.thumb32Bl sg i10 j1 j2 i11) s = .refused (.unsupported .thumb2Range)
      ∧ exec (.thumb32BlxImm sg i10 j1 j2 l10 h) s = .refused (.unsupported .thumb2Range) := by
  have hstop (m : Act Unit) :
      runAct (if j1 && j2 then m else stopUnsupported .thumb2Range) s = .refused (.unsupported .thumb2Range) := by
    rw [hj, if_neg Bool.false_ne_true, runAct_stopUnsupported]
  exact ⟨hstop _, hstop _⟩

/-! ## The statements -/

/-- Settles O15. -/
theorem multiplyResult : Obligations.MultiplyResult := by
  unfold Obligations.MultiplyResult
  intro s c sf rd rn rs rm sb hc
  refine ⟨fun ⟨hrd, hrs, hrm, hne⟩ => ⟨?_, fun hrn => ?_⟩, fun h => ⟨?_, ?_⟩, fun hrn => ?_,
    fun hsb => ⟨_, by rw [exec_armMul hc, if_neg hsb]⟩⟩
  · rw [exec_armMul hc, if_pos rfl, if_neg (by simp [anyPc, hrd, hrs, hrm, hne]), product32_eq_ofNat]
    rfl
  · rw [exec_armMla hc, if_neg (by simp [anyPc, hrd, hrn, hrs, hrm, hne]), product32_eq_ofNat]
    rfl
  · rw [exec_armMul hc, if_pos rfl, if_pos (by simpa [anyPc, or_assoc] using h)]
  · rw [exec_armMla hc, if_pos]
    rcases h with h | h | h | h <;> simp [anyPc, h]
  · rw [exec_armMla hc, if_pos (by simp [anyPc, hrn])]

/-- Settles O16: the products and the destination pair are exact, so that 64-bit addition is addition modulo 2^64. -/
theorem longMultiplyResult : Obligations.LongMultiplyResult := by
  unfold Obligations.LongMultiplyResult
  intro s c sf rdHi rdLo rs rm hc
  have hlong (product) (accumulate) := runAct_longMultiply hc product accumulate sf rdHi rdLo rs rm
  refine ⟨fun hhi hlo hrs hrm hpair hhm hlm => ?_, fun h => ?_⟩
  · have hok : longRestricted rdHi rdLo rs rm = false := by
      simp [longRestricted, anyPc, hhi, hlo, hrs, hrm, hpair, hhm, hlm]
    simp only [hok, Bool.false_eq_true, if_false] at hlong
    refine ⟨(hlong productU false).trans ?_, (hlong productU true).trans ?_, (hlong productS false).trans ?_,
      (hlong productS true).trans ?_⟩
    · rw [productU_eq_ofNat, if_neg Bool.false_ne_true, BitVec.add_zero]
      rfl
    · rw [productU_eq_ofNat, if_pos rfl, State.pair_eq_ofNat, ← BitVec.ofNat_add]
      rfl
    · rw [productS_eq_ofInt, if_neg Bool.false_ne_true, BitVec.add_zero]
      rfl
    · rw [productS_eq_ofInt, if_pos rfl, State.pair_eq_ofNat, ← BitVec.ofInt_natCast, ← BitVec.ofInt_add]
      rfl
  · have hstop : longRestricted rdHi rdLo rs rm = true := by simpa [longRestricted, anyPc, or_assoc] using h
    simp only [hstop, if_true] at hlong
    exact ⟨hlong productU false, hlong productU true, hlong productS false, hlong productS true⟩

/-- Settles O17. -/
theorem unsupportedStops : Obligations.UnsupportedStops := by
  unfold Obligations.UnsupportedStops
  refine ⟨fun s c ra rb rs rm x y hc => ?_, fun s sg j1 j2 h f13 i4 o4 f5 i6 i10 l10 i11 f11 f12 f15 f27 op3 => ?_⟩
  · have hdsp : refuseDsp c 0#4 s = .refused (.unsupported .dspInstruction) := by
      rw [refuseDsp_passed hc, if_pos rfl]
    refine ⟨hdsp, hdsp, hdsp, hdsp, hdsp, hdsp, hdsp, hdsp, hdsp, fun sb hsb => ?_⟩
    have hstop : ∃ why, refuseDsp c sb s = .refused (.unpredictable why) :=
      ⟨_, by rw [refuseDsp_passed hc, if_neg hsb]⟩
    exact ⟨hstop, hstop, hstop, hstop, hstop, hstop⟩
  · have hstop (w) := runAct_stopUnsupported w s
    exact ⟨hstop _, hstop _, hstop _, hstop _, hstop _, hstop _, hstop _, hstop _, hstop _, hstop _, hstop _, hstop _,
      hstop _, fun hj => exec_thumb32Branch_range hj sg h i10 l10 i11 s⟩

end Sys2Proof.Machine
end

section
/-! PROOFS. The loads and stores of one register: their accesses, and the ARM instructions as an address, an access and
what follows it. -/

namespace Sys2Proof.Machine

/-! ## Transfers of one register (R501) -/

/-- A load or store of one register after the condition: the checked address, the access, what follows it. -/
def transfer {α : Type} (address : Act Address) (access : Word → Act α) (finish : Address → α → Act Unit) :
    Act Unit := do
  let a ← address
  let v ← access a.ea
  finish a v

/-- What follows a load: the base's write-back, then the loaded value, which its address may rotate or stop. -/
def finishLoad (rn : RegNum) (write : Word → Word → Act Unit) (a : Address) (v : Word) : Act Unit := do
  writeBackBase rn a.writeBack
  write a.ea v

/-- What follows a store: the base's write-back. -/
def finishStore (rn : RegNum) (a : Address) (_ : Unit) : Act Unit := writeBackBase rn a.writeBack

section
variable {α : Type} {address : Act Address} {access : Word → Act α} {finish : Address → α → Act Unit} {s t : State}
  {a : Address} {v : α}

theorem transfer_ok (ha : address s = .ok (a, s)) (hv : access a.ea s = .ok (v, t)) :
    transfer address access finish s = finish a v t := by
  rw [transfer, act_bind_ok ha, act_bind_ok hv]

theorem transfer_error {e : Stop} (ha : address s = .ok (a, s)) (hv : access a.ea s = .error e) :
    transfer address access finish s = .error e := by
  rw [transfer, act_bind_ok ha, act_bind_error hv]

theorem transfer_stops (ha : ∃ why, address s = .error (.refused (.unpredictable why))) :
    ∃ why, outcomeOf (transfer address access finish s) = .refused (.unpredictable why) := by
  obtain ⟨why, hw⟩ := ha
  exact ⟨why, by rw [transfer, act_bind_error hw, outcomeOf_refused]⟩

end

theorem finishLoad_apply (rn : RegNum) (write : Word → Word → Act Unit) (a : Address) (v : Word) (s : State) :
    finishLoad rn write a v s = write a.ea v (s.writtenBack rn a.writeBack) := by
  rw [finishLoad, act_bind_ok (writeBackBase_apply rn a.writeBack s)]

theorem finishStore_apply (rn : RegNum) (a : Address) (u : Unit) (s : State) :
    finishStore rn a u s = .ok ((), s.writtenBack rn a.writeBack) := writeBackBase_apply rn a.writeBack s

/-! ## Loaded bytes and halfwords (R202, R516) -/

theorem read_byte_eq (m : Memory) (a : Word) : m.read .byte a = (m.readByte a.toNat).setWidth 32 := by
  simp [Memory.read]

theorem signExtendByte_read (m : Memory) (a : Word) :
    signExtendByte (m.read .byte a) = (m.readByte a.toNat).signExtend 32 := by
  rw [signExtendByte, read_byte_eq, BitVec.extractLsb'_setWidth_of_le (by decide), BitVec.extractLsb'_eq_self]

/-! ## The accesses (R204, R205, R207, R504) -/

theorem State.accessPriv_false (s : State) : s.accessPriv false = s.privileged := Bool.true_and _

theorem State.accessPriv_true (s : State) : s.accessPriv true = false := Bool.false_and _

section
variable {s t : State} {a pa : Word} {user priv : Bool} {n : AccSize}

section
variable (hu : s.accessPriv user = priv)
include hu

theorem loadWord_ok (h : s.loadsAt a .word priv pa) :
    loadWord a user s
      = .ok ((s.mem.read .word (AccSize.word.align pa)).rotateRight (8 * (a.toNat % 4)), s) := by
  rw [loadWord, act_bind_ok (look_apply _ s), hu, act_bind_ok (memRead_ok h), act_pure, rotateLoaded_eq]

theorem loadByte_ok (h : s.loadsAt a .byte priv pa) : loadByte a user s = .ok (s.mem.read .byte pa, s) := by
  rw [loadByte, act_bind_ok (look_apply _ s), hu, memRead_ok h]
  rfl

/-- At the privilege of the mode and of the T forms alike. -/
theorem storeReg_stores (h : s.storesAt a n priv pa) (rd : RegNum) :
    storeReg rd n a user s = .ok ((), s.store n (n.align pa) (s.reg rd)) := by
  rw [storeReg, act_bind_ok (look_apply _ s), act_bind_ok (readReg_apply rd s), hu, memWrite_ok h]

variable (hf : s.faultFlag = false) (hp : s.pending = Pending.empty)
include hf hp

theorem loadWord_abort (h : s.abortsAt a .word priv true t) : loadWord a user s = .error (.raised t) := by
  rw [loadWord, act_bind_ok (look_apply _ s), hu, act_bind_error (memRead_abort hf hp h)]

theorem loadByte_abort (h : s.abortsAt a .byte priv true t) : loadByte a user s = .error (.raised t) := by
  rw [loadByte, act_bind_ok (look_apply _ s), hu, memRead_abort hf hp h]

/-- At the privilege of the mode and of the T forms alike. -/
theorem storeReg_aborts (h : s.abortsAt a n priv false t) (rd : RegNum) :
    storeReg rd n a user s = .error (.raised t) := by
  rw [storeReg, act_bind_ok (look_apply _ s), act_bind_ok (readReg_apply rd s), hu, memWrite_abort hf hp h]

end

theorem halfwordCheck_odd (h : s.oddHalfword a = true) :
    halfwordCheck a s = .error (.refused (.unpredictable .misalignedHalfword)) := by
  rw [halfwordCheck, h, unpredictableIf_true]

theorem loadHalf_odd (h : s.oddHalfword a = true) :
    loadHalf a s = .error (.refused (.unpredictable .misalignedHalfword)) := by
  rw [loadHalf, act_bind_error (halfwordCheck_odd h)]

theorem storeHalf_odd (h : s.oddHalfword a = true) (rd : RegNum) :
    storeHalf rd a s = .error (.refused (.unpredictable .misalignedHalfword)) := by
  rw [storeHalf, act_bind_error (halfwordCheck_odd h)]

section
variable (ho : s.oddHalfword a = false)
include ho

theorem halfwordCheck_even : halfwordCheck a s = .ok ((), s) := by rw [halfwordCheck, ho, unpredictableIf_false]

theorem loadHalf_even : loadHalf a s = memRead a .half s.privileged s := by
  rw [loadHalf, act_bind_ok (halfwordCheck_even ho), act_bind_ok (look_apply _ s), s.accessPriv_false]

theorem storeHalf_even (rd : RegNum) : storeHalf rd a s = storeReg rd .half a false s := by
  rw [storeHalf, act_bind_ok (halfwordCheck_even ho)]

theorem loadHalf_ok (h : s.loadsAt a .half s.privileged pa) :
    loadHalf a s = .ok (s.mem.read .half (AccSize.half.align pa), s) := by rw [loadHalf_even ho, memRead_ok h]

theorem storeHalf_ok (h : s.storesAt a .half s.privileged pa) (rd : RegNum) :
    storeHalf rd a s = .ok ((), s.store .half (AccSize.half.align pa) (s.reg rd)) := by
  rw [storeHalf_even ho, storeReg_stores s.accessPriv_false h]

variable (hf : s.faultFlag = false) (hp : s.pending = Pending.empty)
include hf hp

theorem loadHalf_abort (h : s.abortsAt a .half s.privileged true t) : loadHalf a s = .error (.raised t) := by
  rw [loadHalf_even ho, memRead_abort hf hp h]

theorem storeHalf_abort (h : s.abortsAt a .half s.privileged false t) (rd : RegNum) :
    storeHalf rd a s = .error (.raised t) := by
  rw [storeHalf_even ho, storeReg_aborts s.accessPriv_false hf hp h]

end

end

/-! ## Addressing mode 2 (R500 to R502) -/

section
variable {u restricted : Bool} {ix : Indexing} {rn rd : RegNum} {off : Offset2} {s : State}

theorem mode2_ok (hpc : offset2UsesPc off = false) (hr : mode2Restricted ix rn rd = false) (hx : restricted = false) :
    mode2 u ix rn rd off restricted s = .ok (s.mode2Address u ix rn off, s) := by
  rw [mode2, hr, hx, hpc, Bool.or_self, act_bind_ok (unpredictableIf_false _ s),
    act_bind_ok (unpredictableIf_false _ s), look_apply]

theorem mode2_stops (h : offset2UsesPc off = true ∨ mode2Restricted ix rn rd = true ∨ restricted = true) :
    ∃ why, mode2 u ix rn rd off restricted s = .error (.refused (.unpredictable why)) := by
  by_cases hr : (mode2Restricted ix rn rd || restricted) = true
  · exact ⟨.mode2Restriction, by rw [mode2, hr, act_bind_error (unpredictableIf_true _ s)]⟩
  · have hpc : offset2UsesPc off = true := h.resolve_right (by simpa using hr)
    exact ⟨.r15Offset, by rw [mode2, Bool.eq_false_iff.2 hr, hpc, act_bind_ok (unpredictableIf_false _ s),
      act_bind_error (unpredictableIf_true _ s)]⟩

end

/-! ## Addressing mode 3 (R306, R513) -/

section
variable {p u w restricted : Bool} {rn rd : RegNum} {off : Offset3} {s : State}

theorem mode3_ok (hpc : offset3UsesPc off = false) (hsb : offset3SbOk off = true)
    (hr : mode3Restricted p w rn rd = false) (hx : restricted = false) :
    mode3 p u w rn rd off restricted s = .ok (s.mode3Address p u w rn off, s) := by
  rw [mode3, hsb, act_bind_ok (shouldBe_true s), mode3Checked, hpc, hr, hx, Bool.or_self,
    act_bind_ok (unpredictableIf_false _ s), act_bind_ok (unpredictableIf_false _ s), look_apply]

theorem mode3_stops (h : restricted = true ∨ offset3UsesPc off = true ∨ offset3SbOk off = false
      ∨ mode3Restricted p w rn rd = true) :
    ∃ why, mode3 p u w rn rd off restricted s = .error (.refused (.unpredictable why)) := by
  by_cases hsb : offset3SbOk off = true
  · rw [mode3, hsb, act_bind_ok (shouldBe_true s), mode3Checked]
    by_cases hpc : offset3UsesPc off = true
    · exact ⟨_, by rw [hpc, act_bind_error (unpredictableIf_true _ s)]⟩
    · have hr : (mode3Restricted p w rn rd || restricted) = true := by
        simp only [hsb, hpc, Bool.true_eq_false, Bool.false_eq_true, false_or] at h
        rwa [Bool.or_eq_true, or_comm]
      rw [Bool.eq_false_iff.2 hpc, act_bind_ok (unpredictableIf_false _ s), hr]
      exact ⟨_, act_bind_error (unpredictableIf_true _ s)⟩
  · rw [mode3, Bool.eq_false_iff.2 hsb]
    exact ⟨_, act_bind_error (shouldBe_false s)⟩

end

/-! ## The ARM instructions as transfers (R505 to R512, R514 to R517) -/

section
variable {s : State} {c : Cond} (hc : condPassed c s.cpsr = true)
include hc

theorem runAct_passed (m : Act Unit) : runAct (whenPassed c m) s = outcomeOf (m s) := by
  rw [runAct_outcomeOf, whenPassed_passed hc]

section
variable (u : Bool) (ix : Indexing) (rn rd : RegNum) (off : Offset2)

theorem exec_armLdr : exec (.armLdr c u ix rn rd off) s
    = outcomeOf (transfer (mode2 u ix rn rd off false) (loadWord · false) (finishLoad rn (writeLoadedWord rd)) s) :=
  runAct_passed hc _

theorem exec_armLdrt : exec (.armLdrt c u rn rd off) s
    = outcomeOf (transfer (mode2 u .postIndexed rn rd off (rd == 15#4)) (loadWord · true)
        (finishLoad rn (writeLoadedWord rd)) s) :=
  runAct_passed hc _

theorem exec_armLdrb : exec (.armLdrb c u ix rn rd off) s
    = outcomeOf (transfer (mode2 u ix rn rd off (rd == 15#4)) (loadByte · false)
        (finishLoad rn fun _ v => writeReg rd v) s) :=
  runAct_passed hc _

theorem exec_armLdrbt : exec (.armLdrbt c u rn rd off) s
    = outcomeOf (transfer (mode2 u .postIndexed rn rd off (rd == 15#4)) (loadByte · true)
        (finishLoad rn fun _ v => writeReg rd v) s) :=
  runAct_passed hc _

theorem exec_armStr : exec (.armStr c u ix rn rd off) s
    = outcomeOf (transfer (mode2 u ix rn rd off false) (storeReg rd .word · false) (finishStore rn) s) :=
  runAct_passed hc _

theorem exec_armStrt : exec (.armStrt c u rn rd off) s
    = outcomeOf (transfer (mode2 u .postIndexed rn rd off false) (storeReg rd .word · true)
        (finishStore rn) s) :=
  runAct_passed hc _

theorem exec_armStrb : exec (.armStrb c u ix rn rd off) s
    = outcomeOf (transfer (mode2 u ix rn rd off (rd == 15#4)) (storeReg rd .byte · false) (finishStore rn) s) :=
  runAct_passed hc _

theorem exec_armStrbt : exec (.armStrbt c u rn rd off) s
    = outcomeOf (transfer (mode2 u .postIndexed rn rd off (rd == 15#4)) (storeReg rd .byte · true)
        (finishStore rn) s) :=
  runAct_passed hc _

end

section
variable (p u w : Bool) (rn rd : RegNum) (off : Offset3)

theorem exec_armLdrh : exec (.armLdrh c p u w rn rd off) s
    = outcomeOf (transfer (mode3 p u w rn rd off (rd == 15#4)) loadHalf (finishLoad rn fun _ v => writeReg rd v) s) :=
  runAct_passed hc _

theorem exec_armLdrsb : exec (.armLdrsb c p u w rn rd off) s
    = outcomeOf (transfer (mode3 p u w rn rd off (rd == 15#4)) (loadByte · false)
        (finishLoad rn fun _ v => writeReg rd (signExtendByte v)) s) :=
  runAct_passed hc _

theorem exec_armLdrsh : exec (.armLdrsh c p u w rn rd off) s
    = outcomeOf (transfer (mode3 p u w rn rd off (rd == 15#4)) loadHalf
        (finishLoad rn fun _ v => writeReg rd (signExtendHalf v)) s) :=
  runAct_passed hc _

theorem exec_armStrh : exec (.armStrh c p u w rn rd off) s
    = outcomeOf (transfer (mode3 p u w rn rd off (rd == 15#4)) (storeHalf rd) (finishStore rn) s) :=
  runAct_passed hc _

end

end

end Sys2Proof.Machine
end

section
/-! PROOFS. LDR, LDRT and the narrow ARM loads (O18, O19). -/

namespace Sys2Proof.Machine

/-! ## The destination of a loaded word (R109, R505) -/

theorem writeLoadedWord_reg {rd : RegNum} (h : rd ≠ 15#4) (a v : Word) (s : State) :
    writeLoadedWord rd a v s = .ok ((), s.setReg rd v) := by
  rw [writeLoadedWord, if_neg h, writeReg_apply]

theorem outcomeOf_writeLoadedWord_pc (a v : Word) (s : State) :
    outcomeOf (writeLoadedWord 15#4 a v s)
      = if a.toNat % 4 = 0 then outcomeOf (bxWritePC v s) else .refused (.unpredictable .misalignedPcLoad) := by
  have h := AccSize.aligned_iff .word a
  simp only [AccSize.bytes] at h
  rw [writeLoadedWord, if_pos rfl]
  split
  · next h4 =>
    rw [h.2 h4, Bool.not_true, act_bind_ok (unpredictableIf_false _ s)]
    rfl
  · next h4 =>
    rw [Bool.eq_false_iff.2 (mt h.1 h4), Bool.not_false, act_bind_error (unpredictableIf_true _ s), outcomeOf_refused]

/-- A word loaded from an aligned address is not rotated. -/
theorem rotateRight_zero (v : Word) : v.rotateRight (8 * 0) = v := by simp [BitVec.rotateRight_def]

/-! ## The addresses in exact words (R500, R501, R513) -/

theorem State.mode2Offset_imm (s : State) (offset12 : BitVec 12) :
    s.mode2Offset (.imm offset12) = BitVec.ofNat 32 offset12.toNat := by
  rw [BitVec.ofNat_toNat]
  rfl

/-- LSL by 0 is the register as it stands, whatever the carry. -/
theorem State.mode2Offset_reg (s : State) (rm : RegNum) (k : ShiftKind) (n : BitVec 5) :
    s.mode2Offset (.reg rm k n)
      = if k = .lsl ∧ n = 0#5 then s.reg rm else (shiftImm k n (s.reg rm) (s.cpsr.getLsbD 29)).value := by
  split
  · next h =>
    obtain ⟨rfl, rfl⟩ := h
    rfl
  · rfl

theorem State.mode3Offset_imm (s : State) (imm8 : BitVec 8) :
    s.mode3Offset (.imm imm8) = BitVec.ofNat 32 imm8.toNat := by
  rw [BitVec.ofNat_toNat]
  rfl

/-! ## The statements -/

/-- Settles O18: the loaded word is rotated before the write-back and written after it. -/
theorem loadWordResult : Obligations.LoadWordResult := by
  unfold Obligations.LoadWordResult
  intro s c u ix rn rd off pa hc
  simp only [stopsUnpredictable]
  rw [exec_armLdr hc, exec_armLdrt hc]
  refine ⟨fun hpc hr hl => ?_, fun h => ?_, fun h => ?_, fun hpc hr hl hrd => ?_, ?_⟩
  · rw [transfer_ok (mode2_ok hpc hr rfl) (loadWord_ok s.accessPriv_false hl), finishLoad_apply]
    refine ⟨fun hrd => ?_, fun hrd h4 => ?_, fun hrd h4 => ?_⟩
    · rw [writeLoadedWord_reg hrd]
      rfl
    · subst hrd
      rw [outcomeOf_writeLoadedWord_pc, if_pos h4, h4, rotateRight_zero, outcomeOf_bxWritePC]
      rfl
    · subst hrd
      rw [outcomeOf_writeLoadedWord_pc, if_neg h4]
  · exact transfer_stops (mode2_stops (by tauto))
  · exact transfer_stops (mode2_stops (by simpa using h))
  · rw [transfer_ok (mode2_ok hpc hr (beq_false_of_ne hrd)) (loadWord_ok s.accessPriv_true hl),
      finishLoad_apply, writeLoadedWord_reg hrd]
    rfl
  · cases off with
    | imm offset12 => simp [State.mode2Address, State.mode2Offset_imm, offsetAddress]
    | reg rm k n => simp [State.mode2Address, State.mode2Offset_reg, offsetAddress]

/-- Settles O19: the halfword forms look at the address before they read. -/
theorem loadNarrowResult : Obligations.LoadNarrowResult := by
  unfold Obligations.LoadNarrowResult
  intro s c p u w ix rn rd off off3 pa hc
  simp only [stopsUnpredictable]
  rw [exec_armLdrb hc, exec_armLdrbt hc, exec_armLdrsb hc, exec_armLdrh hc, exec_armLdrsh hc]
  refine ⟨fun hrd hpc hr hl => ?_, fun hrd hpc hr hl => ?_, fun hrd hpc hsb hr => ?_, fun h => ?_, fun h => ?_,
    fun h => ?_, ?_⟩
  · rw [transfer_ok (mode2_ok hpc hr (beq_false_of_ne hrd)) (loadByte_ok s.accessPriv_false hl),
      finishLoad_apply, read_byte_eq]
    rfl
  · rw [transfer_ok (mode2_ok hpc hr (beq_false_of_ne hrd)) (loadByte_ok s.accessPriv_true hl),
      finishLoad_apply, read_byte_eq]
    rfl
  · have ha := mode3_ok (u := u) (s := s) hpc hsb hr (beq_false_of_ne hrd)
    refine ⟨fun hl => ?_, fun ho hl => ?_, fun ho => ?_⟩
    · rw [transfer_ok ha (loadByte_ok s.accessPriv_false hl), finishLoad_apply, signExtendByte_read]
      rfl
    · rw [transfer_ok ha (loadHalf_ok ho hl), transfer_ok ha (loadHalf_ok ho hl), finishLoad_apply, finishLoad_apply]
      exact ⟨rfl, rfl⟩
    · rw [transfer_error ha (loadHalf_odd ho), transfer_error ha (loadHalf_odd ho)]
      exact ⟨rfl, rfl⟩
  · exact transfer_stops (mode2_stops (by simpa [or_comm, or_assoc] using h))
  · exact transfer_stops (mode2_stops (by simpa [or_comm, or_assoc] using h))
  · have ha := mode3_stops (u := u) (s := s) (by simpa using h : (rd == 15#4) = true ∨ _)
    exact ⟨transfer_stops ha, transfer_stops ha, transfer_stops ha⟩
  · cases off3 with
    | imm imm8 => simp [State.mode3Address, State.mode3Offset_imm, offsetAddress]
    | reg sb rm => simp [State.mode3Address, State.mode3Offset, offsetAddress]

end Sys2Proof.Machine
end

section
/-! PROOFS. The ARM stores of one register (O20). -/

namespace Sys2Proof.Machine

section
variable {address : Act Address} {a : Address} {s : State} {n : AccSize} {rn rd : RegNum} {pa : Word}
  {store : Word → Act Unit}

/-- A store that goes to the unit at pa leaves what storedAt says, and then the base's write-back. -/
theorem transfer_stored (hwf : s.mem.wf = true) (ha : address s = .ok (a, s))
    (hv : store a.ea s = .ok ((), s.store n (n.align pa) (s.reg rd))) :
    ∃ t, storedAt s t n pa (s.reg rd)
      ∧ outcomeOf (transfer address store (finishStore rn) s) = .next (t.writtenBack rn a.writeBack) :=
  ⟨_, storedAt_store hwf n pa (s.reg rd), by rw [transfer_ok ha hv, finishStore_apply, outcomeOf_ok]⟩

end

/-- Settles O20: the register is stored before the base is written back. -/
theorem storeResult : Obligations.StoreResult := by
  unfold Obligations.StoreResult
  intro s c p u w ix rn rd off off3 pa hc hwf
  simp only [stopsUnpredictable]
  rw [exec_armStr hc, exec_armStrt hc, exec_armStrb hc, exec_armStrbt hc, exec_armStrh hc]
  refine ⟨fun hpc hr => ⟨fun hs => ?_, fun hrd hs => ?_⟩, fun hpc hr => ⟨fun hs => ?_, fun hrd hs => ?_⟩,
    fun hpc hsb hr hrd => ⟨fun ho hs => ?_, fun ho => ?_⟩, fun h => ?_, fun h => ?_, fun h => ?_, fun h => ?_⟩
  · exact transfer_stored hwf (mode2_ok hpc hr rfl) (storeReg_stores s.accessPriv_false hs rd)
  · exact transfer_stored hwf (mode2_ok hpc hr (beq_false_of_ne hrd)) (storeReg_stores s.accessPriv_false hs rd)
  · exact transfer_stored hwf (mode2_ok hpc hr rfl) (storeReg_stores s.accessPriv_true hs rd)
  · exact transfer_stored hwf (mode2_ok hpc hr (beq_false_of_ne hrd)) (storeReg_stores s.accessPriv_true hs rd)
  · exact transfer_stored hwf (mode3_ok hpc hsb hr (beq_false_of_ne hrd)) (storeHalf_ok ho hs rd)
  · rw [transfer_error (mode3_ok hpc hsb hr (beq_false_of_ne hrd)) (storeHalf_odd ho rd), outcomeOf_refused]
  · exact ⟨transfer_stops (mode2_stops (by tauto)), transfer_stops (mode2_stops (by tauto))⟩
  · exact ⟨transfer_stops (mode2_stops (by tauto)), transfer_stops (mode2_stops (by tauto))⟩
  · have hx : (rd == 15#4) = true := beq_iff_eq.2 h
    exact ⟨transfer_stops (mode2_stops (.inr (.inr hx))), transfer_stops (mode2_stops (.inr (.inr hx)))⟩
  · exact transfer_stops (mode3_stops (by simpa using h))

end Sys2Proof.Machine
end

section
/-! PROOFS. The Thumb loads of one register (O42). -/

namespace Sys2Proof.Machine

/-! ## The addresses in exact words (R800, R809, R811, R813, R815) -/

/-- A shifted field below 2^32 is its product. -/
theorem setWidth_shiftLeft_eq_ofNat {n : Nat} (x : BitVec n) (k : Nat) :
    (x.setWidth 32 : Word) <<< k = BitVec.ofNat 32 (2 ^ k * x.toNat) := by
  apply BitVec.eq_of_toNat_eq
  simp [Nat.shiftLeft_eq, Nat.mul_comm]

theorem words8_eq (imm8 : BitVec 8) : words8 imm8 = BitVec.ofNat 32 (4 * imm8.toNat) :=
  setWidth_shiftLeft_eq_ofNat imm8 2

theorem State.immAddress_eq (s : State) (imm5 : BitVec 5) (rn : LowReg) (k : Nat) :
    s.immAddress imm5 rn k = s.reg (rn.setWidth 4) + BitVec.ofNat 32 (2 ^ k * imm5.toNat) := by
  rw [State.immAddress, setWidth_shiftLeft_eq_ofNat]
  rfl

/-! ## The Thumb loads and stores as their accesses (R800 to R816) -/

/-- A load of each size at the mode's privilege, the word rotated, the halfword checked (R204, R207, R504). -/
def loadUnit (n : AccSize) (a : Word) : Act Word :=
  match n with
  | .byte => loadByte a false
  | .half => loadHalf a
  | .word => loadWord a false

/-- A store of each size at the mode's privilege, the halfword checked (R205, R207). -/
def storeUnit (n : AccSize) (rd : RegNum) (a : Word) : Act Unit :=
  match n with
  | .half => storeHalf rd a
  | n => storeReg rd n a false

/-- How a Thumb load extends what it loads: LDRSB and LDRSH with the sign (R804, R808). -/
def thumbExtend : Instr → Word → Word
  | .thumbLdrsb _ _ _ => signExtendByte
  | .thumbLdrsh _ _ _ => signExtendHalf
  | _ => id

/-- A Thumb load: what the access answers, extended, goes to Rd. -/
def thumbLoad (i : Instr) (n : AccSize) (rd : LowReg) (a : Word) : Act Unit := do
  let v ← loadUnit n a
  writeReg (lowReg rd) (thumbExtend i v)

/-- What an entry of thumbAccesses runs. -/
def thumbAccess (rd : LowReg) (x : Instr × Word × AccSize × Bool) : Act Unit :=
  if x.2.2.2 then thumbLoad x.1 x.2.2.1 rd x.2.1 else storeUnit x.2.2.1 (lowReg rd) x.2.1

theorem exec_thumbAccesses (s : State) (rm rn rd : LowReg) (i5 : BitVec 5) (i8 : BitVec 8) :
    ∀ x ∈ thumbAccesses s rm rn rd i5 i8, exec x.1 s = outcomeOf (thumbAccess rd x s) := by
  have h4 : s.reg (rn.setWidth 4) + BitVec.ofNat 32 (4 * i5.toNat) = s.immAddress i5 rn 2 :=
    (s.immAddress_eq i5 rn 2).symm
  have h2 : s.reg (rn.setWidth 4) + BitVec.ofNat 32 (2 * i5.toNat) = s.immAddress i5 rn 1 :=
    (s.immAddress_eq i5 rn 1).symm
  have h1 : s.reg (rn.setWidth 4) + BitVec.ofNat 32 (1 * i5.toNat) = s.immAddress i5 rn 0 :=
    (s.immAddress_eq i5 rn 0).symm
  simp only [thumbAccesses, h4, h2, h1, ← words8_eq, List.forall_mem_cons, List.not_mem_nil, false_implies,
    implies_true, and_true]
  and_intros <;> exact runAct_outcomeOf _ s

section
variable {s : State} {rm rn rd : LowReg} {i5 : BitVec 5} {i8 : BitVec 8} {i : Instr} {n : AccSize} {a v : Word}

theorem thumbLoad_error {e : Stop} (h : loadUnit n a s = .error e) : thumbLoad i n rd a s = .error e := by
  rw [thumbLoad, act_bind_error h]

theorem exec_thumbLoad_ok (hx : (i, a, n, true) ∈ thumbAccesses s rm rn rd i5 i8) (h : loadUnit n a s = .ok (v, s)) :
    exec i s = .next (s.setReg (rd.setWidth 4) (thumbExtend i v)) := by
  have hrun : thumbLoad i n rd a s = .ok ((), s.setReg (lowReg rd) (thumbExtend i v)) := by
    rw [thumbLoad, act_bind_ok h, writeReg_apply]
  exact (exec_thumbAccesses s rm rn rd i5 i8 _ hx).trans (congrArg outcomeOf hrun)

theorem exec_thumbLoad_odd (hx : (i, a, .half, true) ∈ thumbAccesses s rm rn rd i5 i8) (ho : s.oddHalfword a = true) :
    exec i s = .refused (.unpredictable .misalignedHalfword) :=
  (exec_thumbAccesses s rm rn rd i5 i8 _ hx).trans (congrArg outcomeOf (thumbLoad_error (n := .half) (loadHalf_odd ho)))

end

/-- Settles O42: each list of the statement is part of thumbAccesses, with one extension. -/
theorem thumbLoads : Obligations.ThumbLoads := by
  unfold Obligations.ThumbLoads
  intro s rm rn rd i5 i8 i a pa
  simp only [List.mem_cons, Prod.mk.injEq, List.not_mem_nil, or_false]
  refine ⟨fun h hl => ?_, fun h hl => ?_, fun h hl => ?_, fun h => ?_, fun h => ?_⟩
  · obtain ⟨hx, he⟩ : (i, a, .word, true) ∈ thumbAccesses s rm rn rd i5 i8 ∧ thumbExtend i = id := by
      rcases h with ⟨rfl, rfl⟩ | ⟨rfl, rfl⟩ | ⟨rfl, rfl⟩ | ⟨rfl, rfl⟩ <;> exact ⟨by simp [thumbAccesses], rfl⟩
    rw [exec_thumbLoad_ok hx (loadWord_ok s.accessPriv_false hl), he]
    rfl
  · obtain ⟨hx, he⟩ : (i, a, .byte, true) ∈ thumbAccesses s rm rn rd i5 i8 ∧ thumbExtend i = id := by
      rcases h with ⟨rfl, rfl⟩ | ⟨rfl, rfl⟩ <;> exact ⟨by simp [thumbAccesses], rfl⟩
    rw [exec_thumbLoad_ok hx (loadByte_ok s.accessPriv_false hl), he, read_byte_eq]
    rfl
  · obtain ⟨hx, he⟩ : (i, a, .byte, true) ∈ thumbAccesses s rm rn rd i5 i8 ∧ thumbExtend i = signExtendByte := by
      obtain ⟨rfl, rfl⟩ := h
      exact ⟨by simp [thumbAccesses], rfl⟩
    rw [exec_thumbLoad_ok hx (loadByte_ok s.accessPriv_false hl), he, signExtendByte_read]
  · obtain ⟨hx, he⟩ : (i, a, .half, true) ∈ thumbAccesses s rm rn rd i5 i8 ∧ thumbExtend i = id := by
      rcases h with ⟨rfl, rfl⟩ | ⟨rfl, rfl⟩ <;> exact ⟨by simp [thumbAccesses], rfl⟩
    refine ⟨fun ho hl => ?_, exec_thumbLoad_odd hx⟩
    rw [exec_thumbLoad_ok hx (loadHalf_ok ho hl), he]
    rfl
  · obtain ⟨hx, he⟩ : (i, a, .half, true) ∈ thumbAccesses s rm rn rd i5 i8 ∧ thumbExtend i = signExtendHalf := by
      obtain ⟨rfl, rfl⟩ := h
      exact ⟨by simp [thumbAccesses], rfl⟩
    refine ⟨fun ho hl => ?_, exec_thumbLoad_odd hx⟩
    rw [exec_thumbLoad_ok hx (loadHalf_ok ho hl), he]
    rfl

end Sys2Proof.Machine
end

section
/-! PROOFS. What an access that aborts leaves (O55). -/

namespace Sys2Proof.Machine

/-! ## The fault registers (R224, R225) -/

/-- FSR as a fault writes it: status below domain, the rest zero. -/
theorem faultWord_fields (d b : BitVec 4) :
    ((d ++ b).setWidth 32 : Word).extractLsb' 0 4 = b ∧ ((d ++ b).setWidth 32 : Word).extractLsb' 4 4 = d
      ∧ ((d ++ b).setWidth 32 : Word).extractLsb' 8 24 = 0#24 := by
  refine ⟨?_, ?_, ?_⟩ <;> apply BitVec.eq_of_getLsbD_eq <;> intro i hi <;>
    simp only [BitVec.getLsbD_extractLsb', BitVec.getLsbD_setWidth, BitVec.getLsbD_append]
  · simp [hi, show i < 32 by omega]
  · simp [hi, show ¬ 4 + i < 4 by omega, show 4 + i < 32 by omega]
  · simp [show ¬ 8 + i < 4 by omega, BitVec.getLsbD_of_ge d (8 + i - 4) (by omega)]

theorem State.recordFault_fsr (s : State) (va : Word) (st : FaultStatus) (dom : Option (BitVec 4)) :
    ∃ d, (s.recordFault va st dom).fsr = (d ++ st.bits).setWidth 32 ∧ ∀ x, dom = some x → d = x := by
  cases dom with
  | none => exact ⟨_, rfl, fun _ h => nomatch h⟩
  | some x => exact ⟨x, rfl, fun _ h => Option.some.inj h⟩

section
variable {s t : State} (hf : s.faultFlag = false) (hp : s.pending = Pending.empty)

include hp in
theorem State.request_of_empty (k : ExcKind) (why : Reason) :
    s.request k why = { s with pending := Pending.empty.set k (some why) } := by rw [State.request, hp]

include hf hp in
/-- But for FSR, FAR, the sticky flag, the request and the count of draws, a fault leaves the state as it was. -/
theorem State.faulted_eta (va : Word) (st : FaultStatus) (dom : Option (BitVec 4)) (k : ExcKind) (why : Reason) :
    { (s.recordFault va st dom).request k why with
      far := s.far, fsr := s.fsr, faultFlag := false, pending := Pending.empty, draws := s.draws } = s := by
  cases s
  dsimp only at hf hp
  subst hf hp
  cases dom <;> rfl

/-! ## Aborts of data accesses (R204 to R206, R501) -/

section
variable {α : Type} {address : Act Address} {access : Word → Act α} {finish : Address → α → Act Unit} {a : Address}

theorem transfer_abort (ha : address s = .ok (a, s)) (hv : access a.ea s = .error (.raised t)) :
    outcomeOf (transfer address access finish s) = .next t := by rw [transfer_error ha hv, outcomeOf_raised]

end

include hf hp

section
variable {c : Cond} (hc : condPassed c s.cpsr = true) {u : Bool} {rn rd : RegNum} {x : Instr × AccSize × Bool}
include hc

theorem mode2Accesses_abort {ix : Indexing} {off : Offset2} (hx : x ∈ mode2Accesses c u ix rn rd off)
    (hpc : offset2UsesPc off = false) (hr : mode2Restricted ix rn rd = false) (hrd : x.2.1 = .byte → rd ≠ 15#4)
    (h : s.abortsAt (s.mode2Address u ix rn off).ea x.2.1 s.privileged x.2.2 t) : exec x.1 s = .next t := by
  simp only [mode2Accesses, List.mem_cons, List.not_mem_nil, or_false] at hx
  rcases hx with rfl | rfl | rfl | rfl
  · rw [exec_armLdr hc]
    exact transfer_abort (mode2_ok hpc hr rfl) (loadWord_abort s.accessPriv_false hf hp h)
  · rw [exec_armStr hc]
    exact transfer_abort (mode2_ok hpc hr rfl) (storeReg_aborts s.accessPriv_false hf hp h rd)
  · rw [exec_armLdrb hc]
    exact transfer_abort (mode2_ok hpc hr (beq_false_of_ne (hrd rfl))) (loadByte_abort s.accessPriv_false hf hp h)
  · rw [exec_armStrb hc]
    exact transfer_abort (mode2_ok hpc hr (beq_false_of_ne (hrd rfl))) (storeReg_aborts s.accessPriv_false hf hp h rd)

theorem userAccesses_abort {off : Offset2} (hx : x ∈ userAccesses c u rn rd off)
    (hpc : offset2UsesPc off = false) (hr : mode2Restricted .postIndexed rn rd = false)
    (hrd : x.2.1 = .byte ∨ x.2.2 = true → rd ≠ 15#4)
    (h : s.abortsAt (s.mode2Address u .postIndexed rn off).ea x.2.1 false x.2.2 t) : exec x.1 s = .next t := by
  simp only [userAccesses, List.mem_cons, List.not_mem_nil, or_false] at hx
  rcases hx with rfl | rfl | rfl | rfl
  · rw [exec_armLdrt hc]
    exact transfer_abort (mode2_ok hpc hr (beq_false_of_ne (hrd (.inr rfl)))) (loadWord_abort s.accessPriv_true hf hp h)
  · rw [exec_armStrt hc]
    exact transfer_abort (mode2_ok hpc hr rfl) (storeReg_aborts s.accessPriv_true hf hp h rd)
  · rw [exec_armLdrbt hc]
    exact transfer_abort (mode2_ok hpc hr (beq_false_of_ne (hrd (.inl rfl)))) (loadByte_abort s.accessPriv_true hf hp h)
  · rw [exec_armStrbt hc]
    exact transfer_abort (mode2_ok hpc hr (beq_false_of_ne (hrd (.inl rfl))))
      (storeReg_aborts s.accessPriv_true hf hp h rd)

theorem mode3Accesses_abort {p w : Bool} {off : Offset3} (hx : x ∈ mode3Accesses c p u w rn rd off) (hrd : rd ≠ 15#4)
    (hpc : offset3UsesPc off = false) (hsb : offset3SbOk off = true) (hr : mode3Restricted p w rn rd = false)
    (ho : x.2.1 = .half → s.oddHalfword (s.mode3Address p u w rn off).ea = false)
    (h : s.abortsAt (s.mode3Address p u w rn off).ea x.2.1 s.privileged x.2.2 t) : exec x.1 s = .next t := by
  have ha := mode3_ok (u := u) (s := s) hpc hsb hr (beq_false_of_ne hrd)
  simp only [mode3Accesses, List.mem_cons, List.not_mem_nil, or_false] at hx
  rcases hx with rfl | rfl | rfl | rfl
  · rw [exec_armLdrh hc]
    exact transfer_abort ha (loadHalf_abort (ho rfl) hf hp h)
  · rw [exec_armStrh hc]
    exact transfer_abort ha (storeHalf_abort (ho rfl) hf hp h rd)
  · rw [exec_armLdrsb hc]
    exact transfer_abort ha (loadByte_abort s.accessPriv_false hf hp h)
  · rw [exec_armLdrsh hc]
    exact transfer_abort ha (loadHalf_abort (ho rfl) hf hp h)

end

section
variable {n : AccSize} {a : Word} (ho : n = .half → s.oddHalfword a = false)
include ho

theorem loadUnit_abort (h : s.abortsAt a n s.privileged true t) : loadUnit n a s = .error (.raised t) := by
  cases n with
  | byte => exact loadByte_abort s.accessPriv_false hf hp h
  | half => exact loadHalf_abort (ho rfl) hf hp h
  | word => exact loadWord_abort s.accessPriv_false hf hp h

theorem storeUnit_abort (h : s.abortsAt a n s.privileged false t) (rd : RegNum) :
    storeUnit n rd a s = .error (.raised t) := by
  cases n with
  | byte => exact storeReg_aborts s.accessPriv_false hf hp h rd
  | half => exact storeHalf_abort (ho rfl) hf hp h rd
  | word => exact storeReg_aborts s.accessPriv_false hf hp h rd

end

theorem thumbAccesses_abort {rm rn rd : LowReg} {i5 : BitVec 5} {i8 : BitVec 8} {x : Instr × Word × AccSize × Bool}
    (hx : x ∈ thumbAccesses s rm rn rd i5 i8) (ho : x.2.2.1 = .half → s.oddHalfword x.2.1 = false)
    (h : s.abortsAt x.2.1 x.2.2.1 s.privileged x.2.2.2 t) : exec x.1 s = .next t := by
  rw [exec_thumbAccesses s rm rn rd i5 i8 x hx]
  obtain ⟨i, a, n, isRead⟩ := x
  cases isRead with
  | true => exact congrArg outcomeOf (thumbLoad_error (loadUnit_abort hf hp ho h))
  | false => exact congrArg outcomeOf (storeUnit_abort hf hp ho h (lowReg rd))

/-! ## Aborts of fetches (R206, R300, R900) -/

section
variable {a pa : Word} {n : AccSize}

theorem fetchRead_fault {st : FaultStatus} {dom : Option (BitVec 4)}
    (h : s.translation a n s.privileged true = .fault st dom) :
    fetchRead a n s = .error (.raised ((s.recordFault a st dom).request .prefetchAbort .mmuFault)) := by
  rw [fetchRead, act_bind_ok (look_apply _ s), act_bind_error (translateVa_fault hf hp h)]
  rfl

theorem fetchRead_unprobed (h : s.translation a n s.privileged true = .ok pa) (hb : tryRead s n pa = false) :
    fetchRead a n s = .error (.raised (s.request .prefetchAbort .busFetch)) := by
  have hprobe : probe (fun s => tryRead s n pa) .prefetchAbort .busFetch s
      = .error (.raised (s.request .prefetchAbort .busFetch)) := by simp [probe, hb, raise_empty hp]
  rw [fetchRead, act_bind_ok (look_apply _ s), act_bind_ok (translateVa_ok hf h), act_bind_error hprobe]

end

end

section
variable {s t : State} {e : Stop} {pa : Word}

theorem fetch_error (h : fetchRead s.pc (if psrT s.cpsr then .half else .word) s = .error e) : fetch s = .error e := by
  rw [fetch, act_bind_ok (look_apply _ s), act_bind_ok (look_apply _ s)]
  split
  · next ht => rw [ht] at h; exact act_bind_error h
  · next ht => rw [if_neg ht] at h; exact act_bind_error h

theorem fetch_second_error (ht : psrT s.cpsr = true) (h : s.fetchesAt s.pc .half pa)
    (hp : isThumb32Prefix ((s.mem.read .half pa).setWidth 16) = true)
    (h2 : fetchRead (s.pc + 2#32) .half s = .error e) : fetch s = .error e := by
  rw [fetch, act_bind_ok (look_apply _ s), act_bind_ok (look_apply _ s), ht, if_pos rfl, act_bind_ok (fetchRead_ok h),
    hp, if_pos rfl, act_bind_error h2]

/-- A step whose fetch raises ends there. -/
theorem step_fetch_raised (hw : s.waiting = false) (hp : s.pending = Pending.empty)
    (hf : (s.currentLines.fiq && !psrF s.cpsr) = false) (hi : (s.currentLines.irq && !psrI s.cpsr) = false)
    (h : fetch s.sampled = .error (.raised t)) : step s = .next t.endStep := by
  have hdisp : s.sampled.dispatch = s.sampled := State.dispatch_of_empty hp
  have hsample : sampleLines s.currentLines s.sampled = .ok ((), s.sampled) := sampleLines_masked hf hi
  rw [step_not_waiting hw, activeStep, hdisp, act_bind_ok hsample, h]

end

section
variable {s : State} (hw : s.waiting = false) (hp : s.pending = Pending.empty)
  (hfiq : (s.currentLines.fiq && !psrF s.cpsr) = false) (hirq : (s.currentLines.irq && !psrI s.cpsr) = false)
include hw hp hfiq hirq

theorem step_fetch_fault {va : Word} {st : FaultStatus} {dom : Option (BitVec 4)}
    (h : fetch s.sampled = .error (.raised ((s.sampled.recordFault va st dom).request .prefetchAbort .mmuFault))) :
    step s = .next { ({ s.sampled with faultFlag := false, jumped := false } : State).recordFault va st dom with
      pending := { Pending.empty with prefetchAbort := some .mmuFault }, faultFlag := false } := by
  have hq : (s.sampled.recordFault va st dom).pending = Pending.empty := by rw [State.recordFault_pending]; exact hp
  rw [step_fetch_raised hw hp hfiq hirq h, State.request_of_empty hq]
  cases dom <;> rfl

theorem step_fetch_unprobed {why : Reason}
    (h : fetch s.sampled = .error (.raised (s.sampled.request .prefetchAbort why))) :
    step s = .next { ({ s.sampled with faultFlag := false, jumped := false } : State) with
      pending := { Pending.empty with prefetchAbort := some why } } := by
  have hq : s.sampled.pending = Pending.empty := hp
  rw [step_fetch_raised hw hp hfiq hirq h, State.request_of_empty hq]
  rfl

end

/-- Settles O55: every form's access comes before its write-back, and a fetch that raises ends the step. -/
theorem faultIsRecorded : Obligations.FaultIsRecorded := by
  unfold Obligations.FaultIsRecorded
  intro s c u ix rn rd off st dom isRead hc hf hp
  refine ⟨fun hpc hr => ?_, ?_, ?_, ?_, ?_⟩
  · have abort {t} (h : s.abortsAt (s.mode2Address u ix rn off).ea .word s.privileged isRead t) :
        exec (if isRead then .armLdr c u ix rn rd off else .armStr c u ix rn rd off) s = .next t :=
      mode2Accesses_abort hf hp hc
        (x := (if isRead then .armLdr c u ix rn rd off else .armStr c u ix rn rd off, .word, isRead))
        (by cases isRead <;> simp [mode2Accesses]) hpc hr nofun h
    refine ⟨fun pa ht hb => ⟨if isRead then .busRead else .busWrite, ?_⟩,
      fun ht => ⟨_, abort (.inl ⟨st, dom, ht, rfl⟩), ?_⟩⟩
    · rw [abort (.inr ⟨pa, ht, hb, rfl⟩), State.request_of_empty hp]
      rfl
    · obtain ⟨d, hfsr, hd⟩ := s.recordFault_fsr (s.mode2Address u ix rn off).ea st dom
      obtain ⟨hst, hdom, hhigh⟩ := faultWord_fields d st.bits
      rw [State.request_fsr, hfsr, hst, hdom, hhigh]
      refine ⟨by simp, by simp, by simp [State.request, hp, Pending.set], by cases st <;> rfl, hd, rfl,
        s.faulted_eta hf hp _ st dom _ _⟩
  · intro n q hw hfiq hirq
    have hf' : s.sampled.faultFlag = false := hf
    have hp' : s.sampled.pending = Pending.empty := hp
    refine ⟨fun ht => ?_, fun pa ht hb => ⟨.busFetch, ?_⟩,
      fun pa hT h1 hpre => ⟨fun ht => ?_, fun pa2 ht hb => ⟨.busFetch, ?_⟩⟩⟩
    · exact step_fetch_fault hw hp hfiq hirq (fetch_error (fetchRead_fault hf' hp' ht))
    · exact step_fetch_unprobed hw hp hfiq hirq (fetch_error (fetchRead_unprobed hf' hp' ht hb))
    · have hstep := step_fetch_fault hw hp hfiq hirq (fetch_second_error hT h1 hpre (fetchRead_fault hf' hp' ht))
      exact ⟨_, hstep, by simp, rfl⟩
    · exact step_fetch_unprobed hw hp hfiq hirq
        (fetch_second_error hT h1 hpre (fetchRead_unprobed hf' hp' ht hb))
  · exact fun x t hpc => ⟨fun hx hr hrd h => mode2Accesses_abort hf hp hc hx hpc hr hrd h,
      fun hx hr hrd h => userAccesses_abort hf hp hc hx hpc hr hrd h⟩
  · exact fun x t off3 p w hx hrd hpc hsb hr ho h => mode3Accesses_abort hf hp hc hx hrd hpc hsb hr ho h
  · exact fun x t rm rn rd i5 i8 hx ho h => thumbAccesses_abort hf hp hx ho h

end Sys2Proof.Machine
end

section
/-! PROOFS. Words stored at ascending addresses with the MMU off (O27). -/

namespace Sys2Proof.Machine

/-! ## One word (R202) -/

theorem AccSize.toNat_align_word (a : Word) : (AccSize.word.align a).toNat = a.toNat / 4 * 4 := by
  have ha := a.isLt
  have e : AccSize.word.align a = a >>> 2 <<< 2 := by
    apply BitVec.eq_of_getLsbD_eq
    intro i hi
    simp only [AccSize.align]
    interval_cases i <;> simp
  rw [e, BitVec.toNat_shiftLeft, BitVec.toNat_ushiftRight, Nat.shiftRight_eq_div_pow, Nat.shiftLeft_eq]
  omega

theorem Memory.read_word_congr {m m' : Memory} {a : Word}
    (h : ∀ i, i < AccSize.word.bytes → m'.readByte (a.toNat + i) = m.readByte (a.toNat + i)) :
    m'.read .word a = m.read .word a := by
  rw [read_word_eq_append, read_word_eq_append, h 0 (by decide), h 1 (by decide), h 2 (by decide), h 3 (by decide)]

theorem append_bytes (v : Word) :
    ((v.extractLsb' (8 * 3) 8 ++ v.extractLsb' (8 * 2) 8 : Half)
      ++ (v.extractLsb' (8 * 1) 8 ++ v.extractLsb' (8 * 0) 8 : Half) : Word) = v := by
  apply BitVec.eq_of_getLsbD_eq
  intro i hi
  simp only [BitVec.getLsbD_append, BitVec.getLsbD_extractLsb']
  interval_cases i <;> simp

theorem read_of_storedAt {s t : State} {pa v : Word} (h : storedAt s t .word pa v) :
    t.mem.read .word (AccSize.word.align pa) = v := by
  obtain ⟨hbytes, -, -⟩ := h
  rw [read_word_eq_append, hbytes 0 (by decide), hbytes 1 (by decide), hbytes 2 (by decide), hbytes 3 (by decide),
    append_bytes]

/-! ## The addresses of a list's words (R550) -/

theorem add_four_mul_succ (a : Word) (k : Nat) :
    a + 4#32 + BitVec.ofNat 32 (4 * k) = a + BitVec.ofNat 32 (4 * (k + 1)) := by
  rw [Nat.mul_add, Nat.add_comm, BitVec.ofNat_add, BitVec.add_assoc]

/-- Sixteen successive words do not overlap, even where the addresses wrap. -/
theorem outsideUnit_later_word (a : Word) {k i : Nat} (hk : k < 15) (hi : i < AccSize.word.bytes) :
    outsideUnit .word (a + 4#32 + BitVec.ofNat 32 (4 * k)) ((AccSize.word.align a).toNat + i) := by
  have ha := a.isLt
  simp only [AccSize.bytes] at hi
  simp only [outsideUnit, AccSize.toNat_align_word, AccSize.bytes, BitVec.toNat_add, BitVec.toNat_ofNat]
  omega

/-! ## The list (R552) -/

section
variable {p : Bool} {s t : State} {v : Word} {vs : List Word} {a : Word}

/-- The first word is stored at the list's address, the others after it. -/
theorem storeWords_cons_off (hm : s.mmuOn = false) (hwf : s.mem.wf = true)
    (h : storeWords p s (v :: vs) a = some t) :
    ∃ u, storedAt s u .word a v ∧ u.mmuOn = false ∧ u.mem.wf = true ∧ storeWords p u vs (a + 4#32) = some t := by
  rw [storeWords, translation_off hm] at h
  dsimp only at h
  split at h
  · exact ⟨_, storedAt_store hwf .word a v, hm, Memory.wf_write .word a v hwf, h⟩
  · cases h

theorem storeWords_readByte_outside (hm : s.mmuOn = false) (hwf : s.mem.wf = true)
    (h : storeWords p s vs a = some t) {b : Nat}
    (hb : ∀ k, k < vs.length → outsideUnit .word (a + BitVec.ofNat 32 (4 * k)) b) :
    t.mem.readByte b = s.mem.readByte b := by
  induction vs generalizing s a with
  | nil => cases h; rfl
  | cons v vs ih =>
    obtain ⟨u, ⟨-, hout, -⟩, hmu, hwfu, hu⟩ := storeWords_cons_off hm hwf h
    have hfirst : outsideUnit .word a b := by simpa using hb 0 (Nat.succ_pos _)
    have hrest : ∀ k, k < vs.length → outsideUnit .word (a + 4#32 + BitVec.ofNat 32 (4 * k)) b := fun k hk => by
      rw [add_four_mul_succ]
      exact hb (k + 1) (Nat.succ_lt_succ hk)
    rw [ih hmu hwfu hu hrest, hout b hfirst]

/-- Each word of the list stands where it was stored: the later ones leave it alone. -/
theorem storeWords_read (hm : s.mmuOn = false) (hwf : s.mem.wf = true) (h : storeWords p s vs a = some t)
    (hlen : vs.length ≤ 16) {k : Nat} (hk : vs[k]? = some v) :
    t.mem.read .word (AccSize.word.align (a + BitVec.ofNat 32 (4 * k))) = v := by
  induction vs generalizing s a k with
  | nil => cases hk
  | cons x xs ih =>
    obtain ⟨u, hst, hmu, hwfu, hu⟩ := storeWords_cons_off hm hwf h
    rw [List.length_cons] at hlen
    cases k with
    | zero =>
      obtain rfl : x = v := Option.some.inj hk
      have hkept : t.mem.read .word (AccSize.word.align a) = u.mem.read .word (AccSize.word.align a) :=
        Memory.read_word_congr fun i hi => storeWords_readByte_outside hmu hwfu hu fun j hj =>
          outsideUnit_later_word a (by omega) hi
      simpa using hkept.trans (read_of_storedAt hst)
    | succ k =>
      rw [← add_four_mul_succ]
      exact ih hmu hwfu hu (by omega) hk

end

end Sys2Proof.Machine
end

section
/-! PROOFS. LDM(1), LDM(2), STM(1), STM(2), PUSH and STMIA (O25, O27, O44). -/

namespace Sys2Proof.Machine

/-! ## The lists that stop (R551) -/

theorem loadListRestricted_iff {w : Bool} {rn : RegNum} {list : BitVec 16} :
    loadListRestricted w rn list = true ↔ rn = 15#4 ∨ list = 0#16 ∨ (w = true ∧ list.getLsbD rn.toNat = true) := by
  simp only [loadListRestricted, Bool.or_eq_true, Bool.and_eq_true, beq_iff_eq]
  tauto

/-- The lowest register of a list is the one of its lowest set bit. -/
theorem isLowest_iff {rn : RegNum} {list : BitVec 16} :
    isLowest rn list = true ↔ list.getLsbD rn.toNat = true ∧ ∀ k, k < rn.toNat → list.getLsbD k = false := by
  have hsorted := sorted_listRegs list
  have hmem := mem_listRegs list
  rw [isLowest, beq_iff_eq]
  cases hl : listRegs list with
  | nil =>
    refine ⟨nofun, fun ⟨hbit, _⟩ => ?_⟩
    rw [← hmem, hl] at hbit
    cases hbit
  | cons x xs =>
    rw [hl] at hsorted hmem
    obtain ⟨hx, -⟩ := List.pairwise_cons.1 hsorted
    rw [List.head?_cons, Option.some.injEq]
    constructor
    · rintro rfl
      refine ⟨(hmem x).1 List.mem_cons_self, fun k hk => ?_⟩
      have hk16 : (BitVec.ofNat 4 k).toNat = k := by rw [BitVec.toNat_ofNat]; omega
      by_contra hbit
      rw [Bool.not_eq_false, ← hk16, ← hmem] at hbit
      rcases List.mem_cons.1 hbit with e | hin
      · rw [← e, hk16] at hk
        exact Nat.lt_irrefl _ hk
      · have := hx _ hin
        omega
    · rintro ⟨hbit, hlow⟩
      rcases List.mem_cons.1 ((hmem rn).2 hbit) with e | hin
      · exact e.symm
      · exact absurd ((hmem x).1 List.mem_cons_self) (by rw [hlow _ (hx _ hin)]; exact Bool.false_ne_true)

theorem storeListRestricted_iff {w : Bool} {rn : RegNum} {list : BitVec 16} :
    storeListRestricted w rn list = true ↔
      rn = 15#4 ∨ list = 0#16
        ∨ (w = true ∧ list.getLsbD rn.toNat = true ∧ ∃ k, k < rn.toNat ∧ list.getLsbD k = true) := by
  have hlow : isLowest rn list = false ↔
      (list.getLsbD rn.toNat = true → ∃ k, k < rn.toNat ∧ list.getLsbD k = true) := by
    rw [← Bool.not_eq_true, isLowest_iff]
    simp
  simp only [storeListRestricted, Bool.or_eq_true, Bool.and_eq_true, Bool.not_eq_true', beq_iff_eq, hlow]
  tauto

theorem loadListRestricted_false {w : Bool} {rn : RegNum} {list : BitVec 16} (hrn : rn ≠ 15#4) (hlist : list ≠ 0#16)
    (hw : w = true → list.getLsbD rn.toNat = false) : loadListRestricted w rn list = false := by
  rw [Bool.eq_false_iff, ne_eq, loadListRestricted_iff]
  rintro (h | h | ⟨h, hbit⟩)
  · exact hrn h
  · exact hlist h
  · rw [hw h] at hbit
    cases hbit

theorem storeListRestricted_false {w : Bool} {rn : RegNum} {list : BitVec 16} (hrn : rn ≠ 15#4)
    (hlist : list ≠ 0#16)
    (hw : w = true → list.getLsbD rn.toNat = true → ∀ k, k < rn.toNat → list.getLsbD k = false) :
    storeListRestricted w rn list = false := by
  rw [Bool.eq_false_iff, ne_eq, storeListRestricted_iff]
  rintro (h | h | ⟨h, hbit, k, hk, hkbit⟩)
  · exact hrn h
  · exact hlist h
  · rw [hw h hbit k hk] at hkbit
    cases hkbit

/-! ## LDM(1) and LDM(2) (R553, R554) -/

/-- What LDM(1) writes once every word is loaded: the base, the registers, the PC. -/
def ldm1Write (rn : RegNum) (wb : Option Word) (vs : List (RegNum × Word)) : Act Unit := do
  writeBackBase rn wb
  change fun s => s.setRegs vs
  writeLoadedPc (loadedPc vs)

theorem ldm1Write_pc {vs : List (RegNum × Word)} {v : Word} (hv : loadedPc vs = some v) (rn : RegNum)
    (wb : Option Word) (s : State) : ldm1Write rn wb vs s = bxWritePC v ((s.writtenBack rn wb).setRegs vs) := by
  rw [ldm1Write, act_bind_ok (writeBackBase_apply rn wb s), act_bind_ok (change_apply _ _), hv]
  rfl

theorem ldm1Write_noPc {vs : List (RegNum × Word)} (hv : loadedPc vs = none) (rn : RegNum) (wb : Option Word)
    (s : State) : ldm1Write rn wb vs s = .ok ((), (s.writtenBack rn wb).setRegs vs) := by
  rw [ldm1Write, act_bind_ok (writeBackBase_apply rn wb s), act_bind_ok (change_apply _ _), hv]
  rfl

/-- The list of LDM(2) as the fifteen low bits of a list. -/
theorem getLsbD_userList (list : BitVec 15) (r : RegNum) :
    (list.setWidth 16).getLsbD r.toNat = list.getLsbD r.toNat := by
  rw [BitVec.getLsbD_setWidth, decide_eq_true r.isLt, Bool.true_and]

theorem userList_eq_zero {list : BitVec 15} : list.setWidth 16 = 0#16 ↔ list = 0#15 := by
  constructor
  · intro h
    have := congrArg BitVec.toNat h
    rw [BitVec.toNat_setWidth_of_le (by decide)] at this
    exact BitVec.eq_of_toNat_eq this
  · rintro rfl
    rfl

section
variable {s : State} {c : Cond} (hc : condPassed c s.cpsr = true) {rn : RegNum} {w : Bool}
include hc

theorem exec_armLdm1_restricted {list : BitVec 16} (h : loadListRestricted w rn list = true) (p u : Bool) :
    exec (.armLdm1 c p u w rn list) s = .refused (.unpredictable .blockList) := by
  show runAct _ s = _
  rw [runAct_outcomeOf, whenPassed_passed hc, h, act_bind_error (unpredictableIf_true _ s),
    outcomeOf_refused]

theorem exec_armLdm1_loads {list : BitVec 16} (h : loadListRestricted w rn list = false) (p u : Bool) :
    exec (.armLdm1 c p u w rn list) s
      = outcomeOf ((loadList s.privileged (listRegs list) (startOf p u (s.reg rn) (listRegs list).length)
          >>= ldm1Write rn (if w then some (endOf u (s.reg rn) (listRegs list).length) else none)) s) := by
  show runAct _ s = _
  rw [runAct_outcomeOf, whenPassed_passed hc, h, act_bind_ok (unpredictableIf_false _ s),
    act_bind_ok (readReg_apply rn s), act_bind_ok (look_apply _ s), blockStart_eq, blockWriteBack_eq]
  rfl

theorem exec_armLdm2_writeBack (p u : Bool) (rn : RegNum) (list : BitVec 15) :
    exec (.armLdm2 c p u true rn list) s = .refused (.unpredictable .userBankWriteBack) := by
  show runAct _ s = _
  rw [runAct_outcomeOf, whenPassed_passed hc, act_bind_error (unpredictableIf_true _ s),
    outcomeOf_refused]

theorem exec_armLdm2_restricted {list : BitVec 15} (h : loadListRestricted false rn (list.setWidth 16) = true)
    (p u : Bool) : exec (.armLdm2 c p u false rn list) s = .refused (.unpredictable .blockList) := by
  show runAct _ s = _
  rw [runAct_outcomeOf, whenPassed_passed hc, act_bind_ok (unpredictableIf_false _ s), h,
    act_bind_error (unpredictableIf_true _ s), outcomeOf_refused]

theorem exec_armLdm2_loads {list : BitVec 15} (h : loadListRestricted false rn (list.setWidth 16) = false)
    (p u : Bool) :
    exec (.armLdm2 c p u false rn list) s
      = outcomeOf ((loadList s.privileged (listRegs (list.setWidth 16))
            (startOf p u (s.reg rn) (listRegs (list.setWidth 16)).length)
          >>= fun vs => change fun s => s.setUserRegs vs) s) := by
  show runAct _ s = _
  rw [runAct_outcomeOf, whenPassed_passed hc, act_bind_ok (unpredictableIf_false _ s), h,
    act_bind_ok (unpredictableIf_false _ s), act_bind_ok (readReg_apply rn s),
    act_bind_ok (look_apply _ s), blockStart_eq]

end

/-- Settles O25: every word is loaded before the base and the registers are written. -/
theorem loadMultipleResult : Obligations.LoadMultipleResult := by
  unfold Obligations.LoadMultipleResult
  intro s c p u w rn list list15 vs hc hf
  refine ⟨?_, ?_, mem_listRegs list, sorted_listRegs list,
    fun a h => ⟨loadWords_fst h, fun k x hk => loadWords_getElem hf h hk⟩, fun k t hp hrn => ⟨?_, ?_⟩,
    fun h => ⟨_, exec_armLdm1_restricted hc (loadListRestricted_iff.2 h) p u⟩, fun h => ?_⟩
  · intro n t hrn hlist hw hl
    have hrestr := loadListRestricted_false hrn hlist hw
    refine ⟨fun h15 => ?_, fun v hv => ?_, fun r v hv hr => reg_setRegs_loaded hl _ hv hr, fun r hr hrl => ?_, ?_⟩
    · rw [exec_armLdm1_loads hc hrestr, act_bind_ok (loadList_ok hf hl), ldm1Write_noPc (loadedPc_none hl h15),
        outcomeOf_ok]
    · rw [exec_armLdm1_loads hc hrestr, act_bind_ok (loadList_ok hf hl), ldm1Write_pc (loadedPc_some hl hv)]
      exact outcomeOf_bxWritePC v _
    · rw [reg_setRegs_unlisted hl _ hrl, State.reg_writtenBack s hrn]
    · exact congrArg (fun x : State => { x with regs := s.regs }) (State.loaded_eta s rn _ vs).symm
  · intro regs t hrn hlist hl
    have hlist' : list15.setWidth 16 ≠ 0#16 := fun h => hlist (userList_eq_zero.1 h)
    have hfst : vs.map Prod.fst = regs := loadWords_fst hl
    refine ⟨?_, fun r v hv => State.userReg_setUserRegs_mem s (hfst ▸ nodup_listRegs _) hv ?_, fun q hq =>
      State.setUserRegs_get_other s fun r hr => hq r ?_, ?_⟩
    · rw [exec_armLdm2_loads hc (loadListRestricted_false hrn hlist' nofun),
        act_bind_ok (loadList_ok hf hl), change_apply, outcomeOf_ok]
    · rintro rfl
      have h15 := mem_list_of_loaded hl hv
      rw [getLsbD_userList, BitVec.getLsbD_of_ge list15 _ (by decide)] at h15
      cases h15
    · rw [hfst, mem_listRegs, getLsbD_userList] at hr
      exact hr
    · exact congrArg (fun x : State => { x with regs := s.regs }) (State.setUserRegs_eta s vs).symm
  · intro regs start hk hw hl ha
    have hrestr := loadListRestricted_false hrn (ne_zero_of_lt_length hk) hw
    rw [exec_armLdm1_loads hc hrestr, act_bind_error (loadList_abort hf hp hk hl ha), outcomeOf_raised]
  · intro regs start hk hl ha
    rw [exec_armLdm2_loads hc (loadListRestricted_false hrn (ne_zero_of_lt_length hk) nofun),
      act_bind_error (loadList_abort hf hp hk hl ha), outcomeOf_raised]
  · cases w with
    | true => exact ⟨_, exec_armLdm2_writeBack hc p u rn list15⟩
    | false =>
      refine ⟨_, exec_armLdm2_restricted hc (loadListRestricted_iff.2 ?_) p u⟩
      rw [userList_eq_zero]
      tauto

/-! ## STM(1) and STM(2) (R557, R558) -/

section
variable {s : State} {c : Cond} (hc : condPassed c s.cpsr = true) {rn : RegNum} {list : BitVec 16} {w : Bool}
include hc

theorem exec_armStm1_restricted (h : storeListRestricted w rn list = true) (p u : Bool) :
    exec (.armStm1 c p u w rn list) s = .refused (.unpredictable .blockList) := by
  show runAct _ s = _
  rw [runAct_outcomeOf, whenPassed_passed hc, h, act_bind_error (unpredictableIf_true _ s), outcomeOf_refused]

theorem exec_armStm1_stores (h : storeListRestricted w rn list = false) (p u : Bool) :
    exec (.armStm1 c p u w rn list) s
      = outcomeOf ((storeList State.reg s.privileged (listRegs list) (startOf p u (s.reg rn) (listRegs list).length)
          >>= fun _ => writeBackBase rn (if w then some (endOf u (s.reg rn) (listRegs list).length) else none)) s) := by
  show runAct _ s = _
  rw [runAct_outcomeOf, whenPassed_passed hc, h, act_bind_ok (unpredictableIf_false _ s),
    act_bind_ok (readReg_apply rn s), act_bind_ok (look_apply _ s), blockStart_eq, blockWriteBack_eq]

theorem exec_armStm2_writeBack (p u : Bool) (rn : RegNum) (list : BitVec 16) :
    exec (.armStm2 c p u true rn list) s = .refused (.unpredictable .userBankWriteBack) := by
  show runAct _ s = _
  rw [runAct_outcomeOf, whenPassed_passed hc, act_bind_error (unpredictableIf_true _ s), outcomeOf_refused]

theorem exec_armStm2_restricted (h : storeListRestricted false rn list = true) (p u : Bool) :
    exec (.armStm2 c p u false rn list) s = .refused (.unpredictable .blockList) := by
  show runAct _ s = _
  rw [runAct_outcomeOf, whenPassed_passed hc, act_bind_ok (unpredictableIf_false _ s), h,
    act_bind_error (unpredictableIf_true _ s), outcomeOf_refused]

theorem exec_armStm2_stores (h : storeListRestricted false rn list = false) (p u : Bool) :
    exec (.armStm2 c p u false rn list) s
      = outcomeOf (storeList State.userReg s.privileged (listRegs list)
          (startOf p u (s.reg rn) (listRegs list).length) s) := by
  show runAct _ s = _
  rw [runAct_outcomeOf, whenPassed_passed hc, act_bind_ok (unpredictableIf_false _ s), h,
    act_bind_ok (unpredictableIf_false _ s), act_bind_ok (readReg_apply rn s),
    act_bind_ok (look_apply _ s), blockStart_eq]

end

/-- Settles O27: no store changes a register, so each register's word is its value before the transfer. -/
theorem storeMultipleResult : Obligations.StoreMultipleResult := by
  unfold Obligations.StoreMultipleResult
  intro s t c p u w rn list hc hf n start
  refine ⟨fun hrn hlist hw h => ?_, fun hrn hlist h => ?_, fun vs h => ⟨?_, fun hm hwf a ha => ?_,
    fun hm hwf hlen k v hk => ?_⟩, fun k q v hp hrn hk => ⟨fun hw h ha => ?_, fun h ha => ?_⟩,
    fun h => ⟨_, exec_armStm1_restricted hc (storeListRestricted_iff.2 h) p u⟩, fun h => ?_⟩
  · rw [exec_armStm1_stores hc (storeListRestricted_false hrn hlist hw),
      act_bind_ok (storeList_ok hf State.store_reg h), writeBackBase_apply, outcomeOf_ok]
  · rw [exec_armStm2_stores hc (storeListRestricted_false hrn hlist nofun),
      storeList_ok hf State.store_userReg h, outcomeOf_ok]
  · rw [storeWords_frame h]
  · exact storeWords_readByte_outside hm hwf h ha
  · exact storeWords_read hm hwf h hlen hk
  · rw [exec_armStm1_stores hc (storeListRestricted_false hrn (ne_zero_of_lt_length hk) hw),
      act_bind_error (storeList_abort hf hp State.store_reg hk h ha), outcomeOf_raised]
  · rw [exec_armStm2_stores hc (storeListRestricted_false hrn (ne_zero_of_lt_length hk) nofun),
      storeList_abort hf hp State.store_userReg hk h ha, outcomeOf_raised]
  · cases w with
    | true => exact ⟨_, exec_armStm2_writeBack hc p u rn list⟩
    | false => exact ⟨_, exec_armStm2_restricted hc (storeListRestricted_iff.2 (by tauto)) p u⟩

/-! ## PUSH and STMIA (R817, R821) -/

theorem toNat_lowReg (rn : LowReg) : (lowReg rn).toNat = rn.toNat := BitVec.toNat_setWidth_of_le (by decide)

theorem lowList_eq_zero {list : BitVec 8} : list.setWidth 16 = 0#16 ↔ list = 0#8 := by
  constructor
  · exact fun h => by_contra fun hne => lowList_ne_zero hne h
  · rintro rfl
    rfl

theorem getLsbD_lowList_of_lt {k : Nat} (hk : k < 16) (list : BitVec 8) :
    (list.setWidth 16).getLsbD k = list.getLsbD k := by
  rw [BitVec.getLsbD_setWidth, decide_eq_true hk, Bool.true_and]

/-- The restriction on STMIA in the bits of its own list (R821). -/
theorem storeListRestricted_low {rn : LowReg} {list : BitVec 8} :
    storeListRestricted true (lowReg rn) (list.setWidth 16) = true ↔
      list = 0#8 ∨ (list.getLsbD rn.toNat = true ∧ ∃ k, k < rn.toNat ∧ list.getLsbD k = true) := by
  have hrn := rn.isLt
  have hbits : (∃ k, k < rn.toNat ∧ (list.setWidth 16).getLsbD k = true)
      ↔ ∃ k, k < rn.toNat ∧ list.getLsbD k = true :=
    exists_congr fun k => and_congr_right fun hk => by rw [getLsbD_lowList_of_lt (by omega)]
  rw [storeListRestricted_iff, lowList_eq_zero, toNat_lowReg, getLsbD_lowList_of_lt (by omega), hbits]
  simp [lowReg_ne_pc]

theorem exec_thumbPush {r : Bool} {list : BitVec 8} (h : pushList r list ≠ 0#16) (s : State) :
    exec (.thumbPush r list) s
      = outcomeOf ((storeList State.reg s.privileged (listRegs (pushList r list))
            (s.reg 13#4 - listBytes (pushList r list))
          >>= fun _ => writeReg 13#4 (s.reg 13#4 - listBytes (pushList r list))) s) := by
  show runAct _ s = _
  rw [runAct_outcomeOf, beq_false_of_ne h, act_bind_ok (unpredictableIf_false _ s), act_bind_ok (look_apply _ s),
    act_bind_ok (look_apply _ s)]

section
variable {rn : LowReg} {list : BitVec 8}

theorem exec_thumbStmia_restricted (h : storeListRestricted true (lowReg rn) (list.setWidth 16) = true) (s : State) :
    exec (.thumbStmia rn list) s = .refused (.unpredictable .blockList) := by
  show runAct _ s = _
  rw [runAct_outcomeOf, h, act_bind_error (unpredictableIf_true _ s), outcomeOf_refused]

theorem exec_thumbStmia_stores (h : storeListRestricted true (lowReg rn) (list.setWidth 16) = false) (s : State) :
    exec (.thumbStmia rn list) s
      = outcomeOf ((storeList State.reg s.privileged (listRegs (list.setWidth 16)) (s.reg (lowReg rn))
          >>= fun _ => writeReg (lowReg rn) (s.reg (lowReg rn) + listBytes (list.setWidth 16))) s) := by
  show runAct _ s = _
  rw [runAct_outcomeOf, h, act_bind_ok (unpredictableIf_false _ s), act_bind_ok (readReg_apply _ s),
    act_bind_ok (look_apply _ s)]

end

/-- Settles O44: the stack pointer or the base is written only after every word is stored. -/
theorem thumbStoreMultiple : Obligations.ThumbStoreMultiple := by
  unfold Obligations.ThumbStoreMultiple
  intro s t lr rn list hf
  refine ⟨⟨fun hfull h => ?_, fun k q v hp hk h ha => ?_⟩, rfl, ?_,
    fun h => exec_thumbStmia_restricted (storeListRestricted_low.2 h) s⟩
  · have hstore : storeList State.reg s.privileged (listRegs (pushList lr list))
        (s.reg 13#4 - listBytes (pushList lr list)) s = .ok ((), t) := storeList_ok hf State.store_reg h
    rw [exec_thumbPush hfull, act_bind_ok hstore, writeReg_apply, outcomeOf_ok]
    rfl
  · have hstore : storeList State.reg s.privileged (listRegs (pushList lr list))
        (s.reg 13#4 - listBytes (pushList lr list)) s = .error (.raised v) :=
      storeList_abort hf hp State.store_reg hk h ha
    rw [exec_thumbPush (ne_zero_of_lt_length hk), act_bind_error hstore, outcomeOf_raised]
  · intro regs b hlist hlow
    have hrestr : storeListRestricted true (lowReg rn) (list.setWidth 16) = false := by
      rw [Bool.eq_false_iff, ne_eq, storeListRestricted_low]
      rintro (h | ⟨hbit, k, hk, hkbit⟩)
      · exact hlist h
      · rw [hlow hbit k hk] at hkbit
        cases hkbit
    refine ⟨fun h => ?_, fun k q v hp hk h ha => ?_⟩
    · have hstore : storeList State.reg s.privileged (listRegs (list.setWidth 16)) (s.reg (lowReg rn)) s
          = .ok ((), t) := storeList_ok hf State.store_reg h
      rw [exec_thumbStmia_stores hrestr, act_bind_ok hstore, writeReg_apply, outcomeOf_ok]
      rfl
    · have hstore : storeList State.reg s.privileged (listRegs (list.setWidth 16)) (s.reg (lowReg rn)) s
          = .error (.raised v) := storeList_abort hf hp State.store_reg hk h ha
      rw [exec_thumbStmia_stores hrestr, act_bind_error hstore, outcomeOf_raised]

end Sys2Proof.Machine
end

section
/-! PROOFS. The ARM branches (O28). -/

namespace Sys2Proof.Machine

/-! ## Branch targets in exact arithmetic (R600, R820, R822) -/

/-- A shifted signed field is its product; signExtend is the word of the field's integer. -/
theorem signExtend_shiftLeft_eq_ofInt {n : Nat} (x : BitVec n) (k : Nat) :
    (x.signExtend 32 : Word) <<< k = BitVec.ofInt 32 (2 ^ k * x.toInt) := by
  have hk : BitVec.twoPow 32 k = BitVec.ofInt 32 ((2 ^ k : Nat) : Int) := by
    rw [BitVec.ofInt_natCast]
    exact BitVec.eq_of_toNat_eq (BitVec.toNat_twoPow 32 k)
  rw [BitVec.shiftLeft_eq_mul_twoPow, hk, mul_comm, Nat.cast_pow, BitVec.ofInt_mul]
  rfl

/-- The address d bytes past a, then a signed field scaled by 2^k. -/
theorem add_signExtend_shiftLeft_eq_ofInt {n : Nat} (a : Word) (d : Nat) (x : BitVec n) (k : Nat) :
    a + BitVec.ofNat 32 d + (x.signExtend 32 : Word) <<< k
      = BitVec.ofInt 32 ((a.toNat : Int) + (d : Int) + 2 ^ k * x.toInt) := by
  rw [signExtend_shiftLeft_eq_ofInt, BitVec.ofInt_add, BitVec.ofInt_add, BitVec.ofInt_natCast, BitVec.ofInt_natCast,
    BitVec.ofNat_toNat, BitVec.setWidth_eq]

theorem State.armTarget_eq (s : State) (imm24 : BitVec 24) :
    s.armTarget imm24 = BitVec.ofInt 32 ((s.pc.toNat : Int) + 8 + 4 * imm24.toInt) :=
  add_signExtend_shiftLeft_eq_ofInt s.pc 8 imm24 2

/-! ## B, BL and BLX(1) -/

section
variable {s : State} {c : Cond}

theorem exec_armB_passed (hc : condPassed c s.cpsr = true) (imm24 : BitVec 24) :
    exec (.armB c imm24) s = .next (s.jump (s.armTarget imm24)) := by
  show runAct _ s = _
  rw [runAct_outcomeOf, whenPassed_passed hc, act_bind_ok (look_apply _ s), branchWritePC_apply, outcomeOf_ok]

theorem exec_armBl_passed (hc : condPassed c s.cpsr = true) (imm24 : BitVec 24) :
    exec (.armBl c imm24) s = .next ((s.setReg 14#4 s.armLink).jump (s.armTarget imm24)) := by
  show runAct _ s = _
  rw [runAct_outcomeOf, whenPassed_passed hc, act_bind_ok (look_apply _ s), act_bind_ok (look_apply _ s),
    act_bind_ok (writeReg_apply _ _ s), branchWritePC_apply, outcomeOf_ok]

end

/-- The state in Thumb or ARM state at a target, as the immediate forms of BLX leave it (R603). -/
def State.switchTo (s : State) (thumb : Bool) (target : Word) : State :=
  { s with cpsr := withT s.cpsr thumb }.jump target

/-- After a link is written, a switch of the instruction set changes the PC, the jumped flag and T alone. -/
theorem State.switchTo_setReg (s : State) (thumb : Bool) (link target : Word) :
    psrT ((s.setReg 14#4 link).switchTo thumb target).cpsr = thumb
      ∧ { (s.setReg 14#4 link).switchTo thumb target with cpsr := s.cpsr }
        = { s.setReg 14#4 link with pc := target, jumped := true }
      ∧ ∀ j, j ≠ 5 → ((s.setReg 14#4 link).switchTo thumb target).cpsr.getLsbD j = s.cpsr.getLsbD j := by
  refine ⟨psrT_withT _ _, congrArg (State.jump · target) (s.setReg_keep_cpsr 14#4 link), fun j hj => ?_⟩
  rw [State.switchTo, State.jump_cpsr, getLsbD_withT, if_neg hj, State.setReg_cpsr]

theorem exec_armBlxImm (h : Bool) (imm24 : BitVec 24) (s : State) :
    exec (.armBlxImm h imm24) s
      = .next ((s.setReg 14#4 s.armLink).switchTo true (s.armTarget imm24 + (if h then 2#32 else 0#32))) := by
  show execArmBlxImm h imm24 s = _
  unfold execArmBlxImm
  rw [runAct_outcomeOf, act_bind_ok (look_apply _ s), act_bind_ok (look_apply _ s),
    act_bind_ok (writeReg_apply _ _ s), act_bind_ok (change_apply _ _), branchWritePC_apply, outcomeOf_ok]
  rfl

/-- Settles O28: BLX(1) is BL with a switch of the instruction set. -/
theorem armBranches : Obligations.ArmBranches := by
  unfold Obligations.ArmBranches
  intro s c imm24 h target
  have htarget : target = s.armTarget imm24 := (s.armTarget_eq imm24).symm
  obtain ⟨hT, hframe, hbits⟩ := s.switchTo_setReg true s.armLink (target + (if h then 2#32 else 0#32))
  refine ⟨fun hc => ?_, _, exec_armBlxImm h imm24 s, ?_⟩
  · rw [exec_armB_passed hc, exec_armBl_passed hc, htarget]
    exact ⟨rfl, rfl⟩
  · rw [← htarget]
    exact ⟨hT, rfl, hframe, hbits⟩

end Sys2Proof.Machine
end

section
/-! PROOFS. The exchanges of both instruction sets (O29). -/

namespace Sys2Proof.Machine

/-- The should-be field of an unconditional instruction: runAct_shouldBe at the condition that always passes (R306). -/
theorem runAct_shouldBe_always (b : Bool) (m : Act Unit) (s : State) :
    runAct (do shouldBe b; m) s = if b then outcomeOf (m s) else .refused (.unpredictable .shouldBeField) :=
  runAct_shouldBe (c := .al) rfl b m

/-- What BX does once its should-be field has passed (R602, R823). -/
def exchange (rm : RegNum) : Act Unit := do
  let v ← readReg rm
  bxWritePC v

/-- What BLX(2) does once its should-be field has passed, with the link of its instruction set (R604, R824). -/
def linkedExchange (link : State → Word) (rm : RegNum) : Act Unit := do
  unpredictableIf (rm == 15#4) .blxPc
  let target ← readReg rm
  let l ← look link
  writeReg 14#4 l
  bxWritePC target

theorem exec_armBx (c : Cond) (sb : BitVec 12) (rm : RegNum) (s : State) :
    exec (.armBx c sb rm) s = runAct (whenPassed c (do shouldBe (sb == 0xFFF#12); exchange rm)) s := rfl

theorem exec_armBlxReg (c : Cond) (sb : BitVec 12) (rm : RegNum) (s : State) :
    exec (.armBlxReg c sb rm) s
      = runAct (whenPassed c (do shouldBe (sb == 0xFFF#12); linkedExchange State.armLink rm)) s := rfl

theorem exec_thumbBx (h2 : Bool) (rl : LowReg) (sb : BitVec 3) (s : State) :
    exec (.thumbBx h2 rl sb) s = runAct (do shouldBe (sb == 0#3); exchange (hiReg h2 rl)) s := rfl

theorem exec_thumbBlxReg (h2 : Bool) (rl : LowReg) (sb : BitVec 3) (s : State) :
    exec (.thumbBlxReg h2 rl sb) s
      = runAct (do
          shouldBe (sb == 0#3)
          linkedExchange (fun s => (s.pc + 2#32) ||| 1#32) (hiReg h2 rl)) s := rfl

theorem exchange_apply (rm : RegNum) (s : State) : exchange rm s = bxWritePC (s.reg rm) s := rfl

theorem linkedExchange_pc (link : State → Word) (s : State) :
    linkedExchange link 15#4 s = .error (.refused (.unpredictable .blxPc)) := rfl

/-- The target is the operand as it was before the link is written, also where the operand is r14. -/
theorem linkedExchange_ok {rm : RegNum} (hrm : rm ≠ 15#4) (link : State → Word) (s : State) :
    linkedExchange link rm s = bxWritePC (s.reg rm) (s.setReg 14#4 (link s)) := by
  unfold linkedExchange
  rw [beq_false_of_ne hrm, act_bind_ok (unpredictableIf_false _ s), act_bind_ok (readReg_apply rm s),
    act_bind_ok (look_apply link s), act_bind_ok (writeReg_apply _ _ s)]

/-- Settles O29: the four instructions are two exchanges behind a should-be field, with the link of each set. -/
theorem exchanges : Obligations.Exchanges := by
  unfold Obligations.Exchanges
  intro s c rm h2 rl out rt
  have hout (t : State) (v : Word) : outcomeOf (bxWritePC v t) = out t v := outcomeOf_bxWritePC v t
  have hrtDef : hiReg h2 rl = rt := rfl
  refine ⟨fun hc => ⟨?_, fun hrm => ?_, fun hrm => ?_⟩, ?_, fun hrt => ?_, fun hrt => ?_,
    fun sb hsb hc => ⟨⟨.shouldBeField, ?_⟩, ⟨.shouldBeField, ?_⟩⟩,
    fun sb hsb => ⟨⟨.shouldBeField, ?_⟩, ⟨.shouldBeField, ?_⟩⟩⟩
  · rw [exec_armBx, runAct_shouldBe hc, if_pos (by rfl), exchange_apply, hout]
  · rw [exec_armBlxReg, runAct_shouldBe hc, if_pos (by rfl), linkedExchange_ok hrm, hout]
    rfl
  · rw [exec_armBlxReg, runAct_shouldBe hc, if_pos (by rfl), hrm, linkedExchange_pc, outcomeOf_refused]
  · rw [exec_thumbBx, runAct_shouldBe_always, if_pos (by rfl), hrtDef, exchange_apply, hout]
  · rw [exec_thumbBlxReg, runAct_shouldBe_always, if_pos (by rfl), hrtDef, linkedExchange_ok hrt, hout]
  · rw [exec_thumbBlxReg, runAct_shouldBe_always, if_pos (by rfl), hrtDef, hrt, linkedExchange_pc, outcomeOf_refused]
  · rw [exec_armBx, runAct_shouldBe hc, if_neg (by simpa using hsb)]
  · rw [exec_armBlxReg, runAct_shouldBe hc, if_neg (by simpa using hsb)]
  · rw [exec_thumbBx, runAct_shouldBe_always, if_neg (by simpa using hsb)]
  · rw [exec_thumbBlxReg, runAct_shouldBe_always, if_neg (by simpa using hsb)]

end Sys2Proof.Machine
end

section
/-! PROOFS. CLZ (O33). -/

namespace Sys2Proof.Machine

/-! ## Leading zeros (R654) -/

section
variable {v : Word} {k : Nat}

theorem leadingZeros_succ_of_set (h : v.getLsbD k = true) : leadingZeros v (k + 1) = 0 := if_pos h

theorem leadingZeros_succ_of_clear (h : v.getLsbD k = false) : leadingZeros v (k + 1) = leadingZeros v k + 1 :=
  if_neg (by simp [h])

theorem leadingZeros_le (v : Word) (k : Nat) : leadingZeros v k ≤ k := by
  induction k with
  | zero => exact Nat.le_refl 0
  | succ k ih =>
    cases h : v.getLsbD k with
    | true => rw [leadingZeros_succ_of_set h]; exact Nat.zero_le _
    | false => rw [leadingZeros_succ_of_clear h]; omega

/-- The counted bits are the top ones among the low k, and all of them are clear. -/
theorem getLsbD_of_leadingZeros_le {j : Nat} (hlow : k - leadingZeros v k ≤ j) (hj : j < k) :
    v.getLsbD j = false := by
  induction k with
  | zero => omega
  | succ k ih =>
    cases h : v.getLsbD k with
    | true => rw [leadingZeros_succ_of_set h] at hlow; omega
    | false =>
      rw [leadingZeros_succ_of_clear h] at hlow
      rcases Nat.lt_succ_iff_lt_or_eq.1 hj with hlt | rfl
      · exact ih (by omega) hlt
      · exact h

/-- The count ends at a set bit, unless the low k bits are all clear. -/
theorem getLsbD_leadingZeros (hlt : leadingZeros v k < k) : v.getLsbD (k - 1 - leadingZeros v k) = true := by
  induction k with
  | zero => omega
  | succ k ih =>
    cases h : v.getLsbD k with
    | true => rw [leadingZeros_succ_of_set h]; exact h
    | false =>
      rw [leadingZeros_succ_of_clear h] at hlt ⊢
      have hindex : k + 1 - 1 - (leadingZeros v k + 1) = k - 1 - leadingZeros v k := by omega
      rw [hindex]
      exact ih (by omega)

end

/-! ## The instruction -/

theorem exec_armClz {s : State} {c : Cond} (hc : condPassed c s.cpsr = true) (sb19 : BitVec 4) (rd : RegNum)
    (sb11 : BitVec 4) (rm : RegNum) :
    exec (.armClz c sb19 rd sb11 rm) s
      = if sb19 = 0xF#4 ∧ sb11 = 0xF#4 then
          if rd = 15#4 ∨ rm = 15#4 then .refused (.unpredictable .clzPc)
          else .next (s.setReg rd (BitVec.ofNat 32 (leadingZeros (s.reg rm) 32)))
        else .refused (.unpredictable .shouldBeField) := by
  refine (runAct_shouldBe hc _ _).trans ?_
  rw [outcomeOf_unpredictableIf, act_bind_ok (readReg_apply rm s), writeReg_apply, outcomeOf_ok]
  simp only [Bool.and_eq_true, Bool.or_eq_true, beq_iff_eq]

/-- Settles O33, with the model's own count of the 32 bits of Rm for n. -/
theorem countLeadingZeros : Obligations.CountLeadingZeros := by
  unfold Obligations.CountLeadingZeros
  intro s c rd rm hc
  refine ⟨fun hrd hrm => ⟨leadingZeros (s.reg rm) 32, leadingZeros_le _ _, ?_, fun j hj => ?_, getLsbD_leadingZeros⟩,
    fun hpc => ?_, fun a b hsb => ⟨.shouldBeField, ?_⟩⟩
  · rw [exec_armClz hc, if_pos ⟨rfl, rfl⟩, if_neg (not_or.2 ⟨hrd, hrm⟩)]
  · rcases Nat.lt_or_ge j 32 with hlt | hge
    · exact getLsbD_of_leadingZeros_le hj hlt
    · exact BitVec.getLsbD_of_ge _ j hge
  · rw [exec_armClz hc, if_pos ⟨rfl, rfl⟩, if_pos hpc]
  · rw [exec_armClz hc, if_neg (not_and_or.2 hsb)]

end Sys2Proof.Machine
end

section
/-! PROOFS. Which coprocessor instructions are carried out at all (O37). -/

namespace Sys2Proof.Machine

/-! ## The tests before an instruction's own effect (R700, R702) -/

theorem State.privileged_iff (s : State) : s.privileged = true ↔ psrM s.cpsr ≠ 0b10000#5 := bne_iff_ne

section
variable {s : State} {cp : BitVec 4}

theorem coprocessorAccess_absent_unsupported (hcp : cp ≠ 15#4) (ha : s.absentCp = .unsupported) :
    coprocessorAccess cp s = .error (.refused (.unsupported .unknownCoprocessor)) := by
  unfold coprocessorAccess
  rw [if_neg hcp, ha]

theorem coprocessorAccess_absent_undefined (hcp : cp ≠ 15#4) (ha : s.absentCp = .undefined)
    (hp : s.pending = Pending.empty) :
    coprocessorAccess cp s = .error (.raised (s.request .undefinedInstruction .absentCoprocessor)) := by
  unfold coprocessorAccess
  rw [if_neg hcp, ha]
  exact raise_empty hp _ _

theorem coprocessorAccess_cp15_user (hm : psrM s.cpsr = 0b10000#5) (hp : s.pending = Pending.empty) :
    coprocessorAccess 15#4 s = .error (.raised (s.request .undefinedInstruction .cp15InUserMode)) := by
  unfold coprocessorAccess
  rw [if_pos rfl, if_neg (mt s.privileged_iff.1 (not_not_intro hm)), raise_empty hp]

theorem refuseToCp15_privileged (hm : psrM s.cpsr ≠ 0b10000#5) :
    refuseToCp15 15#4 s = .error (.refused (.unsupported .formToCp15)) := by
  unfold refuseToCp15
  rw [act_bind_ok (coprocessorAccess_cp15 (s.privileged_iff.2 hm)), stopUnsupported_apply]

end

/-! ## Every form makes the tests first (R704 to R710) -/

/-- A body under the condition of its instruction, if it has one. -/
def whenPassedIf (oc : Option Cond) (body : Act Unit) : Act Unit :=
  match oc with
  | some c => whenPassed c body
  | none => body

theorem runAct_whenPassedIf {oc : Option Cond} {s : State} (h : ∀ c, oc = some c → condPassed c s.cpsr = true)
    (body : Act Unit) : runAct (whenPassedIf oc body) s = outcomeOf (body s) := by
  rw [runAct_outcomeOf]
  cases oc with
  | some c => exact congrArg outcomeOf (whenPassed_passed (h c rfl) body)
  | none => rfl

section
variable (c : Cond) (p u n w : Bool) (a b d m cp : BitVec 4) (o1 op2 : BitVec 3) (o8 : BitVec 8) (s : State)

/-- The forms other than MCR and MRC are one body (R706 to R710). -/
theorem exec_otherCopForms :
    ∀ f ∈ otherCopForms c p u n w a b d m cp o1 op2 o8,
      exec f.1 s = runAct (whenPassedIf f.2 (refuseToCp15 cp)) s := by
  simp only [otherCopForms, List.forall_mem_cons]
  exact ⟨rfl, rfl, rfl, rfl, rfl, rfl, rfl, rfl, rfl, rfl, List.forall_mem_nil _⟩

/-- What a form does of its own comes after the tests. -/
theorem exec_copForms :
    ∀ f ∈ (.armMcr c o1 a b cp op2 m, some c) :: (.armMrc c o1 a b cp op2 m, some c)
        :: otherCopForms c p u n w a b d m cp o1 op2 o8,
      ∃ effect : Unit → Act Unit, exec f.1 s = runAct (whenPassedIf f.2 (coprocessorAccess cp >>= effect)) s := by
  simp only [List.forall_mem_cons]
  exact ⟨⟨_, rfl⟩, ⟨_, rfl⟩, fun f hf => ⟨_, exec_otherCopForms c p u n w a b d m cp o1 op2 o8 s f hf⟩⟩

variable {s} {c p u n w a b d m cp o1 op2 o8}

/-- A test that stops or raises ends every form alike. -/
theorem exec_copForms_error {f : Instr × Option Cond} {e : Stop}
    (hf : f ∈ (.armMcr c o1 a b cp op2 m, some c) :: (.armMrc c o1 a b cp op2 m, some c)
      :: otherCopForms c p u n w a b d m cp o1 op2 o8)
    (hc : ∀ c', f.2 = some c' → condPassed c' s.cpsr = true) (he : coprocessorAccess cp s = .error e) :
    exec f.1 s = outcomeOf (.error e) := by
  obtain ⟨effect, hexec⟩ := exec_copForms c p u n w a b d m cp o1 op2 o8 s f hf
  rw [hexec, runAct_whenPassedIf hc, act_bind_error he]

end

end Sys2Proof.Machine

namespace Sys2Proof

open Machine

/-- Settles O37, by the outcome of the tests that every form makes first. It stands outside the namespace of the model,
which has a function of this name. -/
theorem coprocessorAccess : Obligations.CoprocessorAccess := by
  unfold Obligations.CoprocessorAccess
  intro s c p u n w a b d m cp o1 op2 o8 f hf hc
  refine ⟨fun hcp ha => ?_, fun hcp ha hp => ?_, ?_, ?_⟩
  · exact exec_copForms_error hf hc (coprocessorAccess_absent_unsupported hcp ha)
  · rw [exec_copForms_error hf hc (coprocessorAccess_absent_undefined hcp ha hp), State.request_of_empty hp]
    rfl
  · rintro rfl hm hp
    rw [exec_copForms_error hf hc (coprocessorAccess_cp15_user hm hp), State.request_of_empty hp]
    rfl
  · rintro rfl hm hother
    rw [exec_otherCopForms _ _ _ _ _ _ _ _ _ _ _ _ _ s f hother, runAct_whenPassedIf hc, refuseToCp15_privileged hm,
      outcomeOf_refused]

end Sys2Proof
end

section
/-! PROOFS. Wait for interrupt (O50). -/

namespace Sys2Proof.Machine

variable {s : State}

theorem State.currentLines_cons {l : Lines} {rest : List Lines} (h : s.lines = l :: rest) : s.currentLines = l := by
  rw [State.currentLines, h, List.headD_cons]

theorem State.currentLines_nil (h : s.lines = []) : s.currentLines = ⟨false, false⟩ := by
  rw [State.currentLines, h, List.headD_nil]

/-- Neither line wakes the core: the step only moves the schedule on (R900, R950). -/
theorem step_idle (hw : s.waiting = true) (hl : s.currentLines = ⟨false, false⟩) : step s = .next s.sampled := by
  have hidle : s.sampled.idle s.currentLines = true := by rw [State.idle, State.sampled_waiting, hw, hl]; rfl
  rw [step, if_pos hidle]

/-- A line wakes the core whatever its mask: the waiting flag then has no part in the step (R712, R900). -/
theorem step_wakes (hl : (s.currentLines.irq || s.currentLines.fiq) = true) :
    step s = step { s with waiting := false } := by
  have hidle : s.sampled.idle s.currentLines = false := by rw [State.idle, hl, Bool.not_true, Bool.and_false]
  rw [step, if_neg (Bool.eq_false_iff.1 hidle), step_not_waiting (s := { s with waiting := false }) rfl]
  rfl

/-- Settles O50. -/
theorem waitForInterrupt : Obligations.WaitForInterrupt := by
  unfold Obligations.WaitForInterrupt
  intro s rest irq fiq hw
  refine ⟨?_, fun hl => ?_, fun hl hline => step_wakes ?_⟩
  · rintro hl rfl rfl
    rw [step_idle hw (State.currentLines_cons hl), State.sampled, hl, List.tail_cons]
  · have hsame : s.sampled = s := by
      rw [State.sampled, hl, List.tail_nil, ← hl]
    rw [step_idle hw (State.currentLines_nil hl), hsame]
  · rw [State.currentLines_cons hl]
    exact Bool.or_eq_true_iff.2 hline

end Sys2Proof.Machine
end

section
/-! PROOFS. The Thumb data processing (O38 to O41). -/

namespace Sys2Proof.Machine

/-! ## A value read off the state, then what the rule writes (R750) -/

section
variable {α : Type} (s : State)

theorem runAct_look (f : State → α) (m : α → Act Unit) :
    runAct (do let o ← look f; m o) s = runAct (m (f s)) s := by
  rw [runAct_outcomeOf, act_bind_ok (look_apply f s), runAct_outcomeOf]

theorem runAct_writeReg (rd : RegNum) (v : Word) : runAct (writeReg rd v) s = .next (s.setReg rd v) :=
  runAct_ok (writeReg_apply rd v s)

theorem runAct_writeResult (rd : RegNum) (v : Word) (flags : Word → Word) :
    runAct (writeResult rd v flags) s = .next { s.setReg rd v with cpsr := flags s.cpsr } := by
  rw [runAct_outcomeOf, writeResult, act_bind_ok (writeReg_apply rd v s), setCpsrFlags_apply, State.setReg_cpsr,
    outcomeOf_ok]

/-- No flag changes: the address forms (R781 to R784). -/
theorem runAct_look_writeReg (f : State → Word) (rd : RegNum) :
    runAct (do let v ← look f; writeReg rd v) s = .next (s.setReg rd (f s)) := by
  rw [runAct_look, runAct_writeReg]

/-- No register changes: the comparisons and TST (R759, R770, R772, R773, R779). -/
theorem runAct_look_setCpsrFlags (f : State → α) (flags : α → Word → Word) :
    runAct (do let o ← look f; setCpsrFlags fun p => flags o p) s = .next { s with cpsr := flags (f s) s.cpsr } := by
  rw [runAct_look]
  exact runAct_ok (setCpsrFlags_apply _ s)

/-- The Thumb results are what the ARM forms with S = 1 leave (R406, R750). -/
theorem runAct_look_thumbArith (f : State → AluOut) (rd : LowReg) :
    runAct (do let o ← look f; thumbArith rd o) s = .next (s.arithTo true (lowReg rd) (f s)) := by
  rw [runAct_look, thumbArith, runAct_writeResult]
  rfl

theorem runAct_look_thumbShifted (f : State → Shifted) (rd : LowReg) :
    runAct (do let sh ← look f; thumbShifted rd sh) s
      = .next (s.logicalTo true (lowReg rd) (f s).value (f s).carry) := by
  rw [runAct_look, thumbShifted, runAct_writeResult]
  rfl

theorem runAct_thumbLogic (rd : LowReg) (v : Word) :
    runAct (thumbLogic rd v) s = .next (s.productTo true (lowReg rd) v) := by
  rw [thumbLogic, runAct_writeResult]
  rfl

theorem runAct_look_thumbLogic (f : State → Word) (rd : LowReg) :
    runAct (do let v ← look f; thumbLogic rd v) s = .next (s.productTo true (lowReg rd) (f s)) := by
  rw [runAct_look, runAct_thumbLogic]

end

/-! ## Shifts (R751 to R753, R764 to R766, R769) -/

/-- The shifts as they run: by an immediate, and by the low byte of Rm. -/
theorem runAct_thumbShiftImm (kind : ShiftKind) (imm5 : BitVec 5) (rm rd : LowReg) (s : State) :
    runAct (thumbShiftImm kind imm5 rm rd) s
      = let sh := shiftImm kind imm5 (s.reg (lowReg rm)) (psrC s.cpsr)
        .next (s.logicalTo true (lowReg rd) sh.value sh.carry) := by
  rw [thumbShiftImm, runAct_look_thumbShifted]

theorem runAct_thumbShiftReg (kind : ShiftKind) (rm rd : LowReg) (s : State) :
    runAct (thumbShiftReg kind rm rd) s
      = let sh := shiftReg kind ((s.reg (lowReg rm)).setWidth 8) (s.reg (lowReg rd)) (psrC s.cpsr)
        .next (s.logicalTo true (lowReg rd) sh.value sh.carry) := by
  rw [thumbShiftReg, runAct_look_thumbShifted, BitVec.setWidth_eq_extractLsb' (by decide : 8 ≤ 32)]

/-! ## MUL (R775) -/

/-- The low word of the exact product. -/
theorem mul_eq_ofNat (a b : Word) : a * b = BitVec.ofNat 32 (a.toNat * b.toNat) := rfl

/-- The registers are looked at before they are read. -/
theorem execThumbMul_eq (rm rd : LowReg) (s : State) :
    execThumbMul rm rd s
      = if rd = rm then .refused (.unpredictable .multiplyRegisters)
        else .next (s.productTo true (lowReg rd) (s.reg (lowReg rm) * s.reg (lowReg rd))) := by
  rw [execThumbMul, runAct_outcomeOf, outcomeOf_unpredictableIf, ← runAct_outcomeOf, runAct_look_thumbLogic]
  simp only [beq_iff_eq]

/-! ## Hi-register forms (R778 to R780) -/

section
variable (m : Act Unit) (s : State)

theorem runAct_hiForm_high {h1 h2 : Bool} (h : (h1 || h2) = true) :
    runAct (do unpredictableIf (!h1 && !h2) .twoLowRegisters; m) s = runAct m s := by
  have hgo : (!h1 && !h2) = false := by rw [← Bool.not_or, h, Bool.not_true]
  rw [runAct_outcomeOf, hgo, act_bind_ok (unpredictableIf_false _ s), runAct_outcomeOf]

theorem runAct_hiForm_low :
    runAct (do unpredictableIf (!false && !false) .twoLowRegisters; m) s
      = .refused (.unpredictable .twoLowRegisters) :=
  runAct_refused (act_bind_error (unpredictableIf_true _ s))

end

/-- The destination of ADD(4) and MOV(3): the PC in its instruction set, or a register (R109). -/
theorem runAct_look_writeHi (f : State → Word) (d : RegNum) (s : State) :
    runAct (do let v ← look f; writeHi d v) s
      = if d = 15#4 then outcomeOf (aluWritePC (f s) s) else .next (s.setReg d (f s)) := by
  rw [runAct_look, writeHi]
  split
  · exact runAct_outcomeOf _ s
  · exact runAct_writeReg s d (f s)

/-- A 7-bit immediate in words, in exact arithmetic (R783). -/
theorem words7_eq (imm7 : BitVec 7) : words7 imm7 = BitVec.ofNat 32 (4 * imm7.toNat) :=
  setWidth_shiftLeft_eq_ofNat imm7 2

/-! ## The statements -/

/-- Settles O38: every shift is the shifter by an immediate or by a register. -/
theorem thumbShifts : Obligations.ThumbShifts := by
  unfold Obligations.ThumbShifts
  intro s imm5 rm rd
  have himm (kind : ShiftKind) := runAct_thumbShiftImm kind imm5 rm rd s
  have hreg (kind : ShiftKind) := runAct_thumbShiftReg kind rm rd s
  exact ⟨himm .lsl, himm .lsr, himm .asr, hreg .lsl, hreg .lsr, hreg .asr, hreg .ror⟩

/-- Settles O39: every form reads the adder's output off the state, then writes it and its flags, or its flags
alone. -/
theorem thumbArithmetic : Obligations.ThumbArithmetic := by
  unfold Obligations.ThumbArithmetic
  intro s rm rn rd i3 i8 h1 h2
  have hout (f : State → AluOut) := runAct_look_thumbArith s f rd
  have hcmp (f : State → AluOut) := runAct_look_setCpsrFlags s f fun o p => arithFlags p o
  simp only [exec]
  exact ⟨hout _, hout _, hout _, hout _, hout _, hout _, hout _, hout _, hout _, hcmp _, hcmp _, hcmp _,
    fun h => (runAct_hiForm_high _ s h).trans (hcmp _), runAct_hiForm_low _ s⟩

/-- Settles O40. -/
theorem thumbLogical : Obligations.ThumbLogical := by
  unfold Obligations.ThumbLogical
  intro s rm rd i8
  have hout (f : State → Word) := runAct_look_thumbLogic s f rd
  have htst (f : State → Word) := runAct_look_setCpsrFlags s f fun v p => nzFlags p v
  simp only [exec]
  refine ⟨runAct_thumbLogic s rd _, hout _, hout _, hout _, hout _, hout _, htst _, fun hne => ?_, fun heq => ?_⟩
  · rw [execThumbMul_eq, if_neg hne, mul_eq_ofNat]
    rfl
  · rw [execThumbMul_eq, if_pos heq]

/-- Settles O41. -/
theorem thumbHiAndAddress : Obligations.ThumbHiAndAddress := by
  unfold Obligations.ThumbHiAndAddress
  intro s h1 h2 rm rd i8 i7
  have hhi (f : State → Word) := runAct_look_writeHi f (hiReg h1 rd) s
  have haddr (f : State → Word) (d : RegNum) := runAct_look_writeReg s f d
  simp only [outcomeOf_aluWritePC] at hhi
  simp only [exec, ← words8_eq, ← words7_eq]
  exact ⟨⟨fun h => ⟨(runAct_hiForm_high _ s h).trans (hhi _), (runAct_hiForm_high _ s h).trans (hhi _)⟩,
    runAct_hiForm_low _ s, runAct_hiForm_low _ s⟩, haddr _ _, haddr _ _, haddr _ _, haddr _ _⟩

end Sys2Proof.Machine
end

section
/-! PROOFS. No instruction of User mode changes what privilege protects (O60): every elementary update of
Laws/Updates.lean either keeps it or has a guard that fails in User mode. -/

namespace Sys2Proof.Machine

variable {A : Prop} {s t : State}

/-! ## What User mode sees (R104, R555) -/

/-- In User mode the User bank is the current one. -/
theorem State.setUserReg_of_usr (h : s.mode = .usr) (n : RegNum) (v : Word) : s.setUserReg n v = s.setReg n v := by
  unfold State.setUserReg State.setReg
  rw [h]

/-- User mode names no cell of an exception mode. -/
theorem Mode.cell_usr_ne_banked (n : RegNum) :
    ∀ p ∈ [PhysReg.r8fiq, .r9fiq, .r10fiq, .r11fiq, .r12fiq, .r13fiq, .r14fiq, .r13irq, .r14irq, .r13svc, .r14svc,
      .r13abt, .r14abt, .r13und, .r14und], Mode.usr.cell n ≠ some p := by
  revert n
  decide

/-! ## Updates that keep what privilege protects -/

theorem samePrivileged_refl (s : State) : samePrivileged s s :=
  ⟨rfl, rfl, rfl, rfl, rfl, rfl, rfl, rfl, fun _ _ => rfl⟩

theorem samePrivileged.trans {u : State} (h : samePrivileged s t) (h' : samePrivileged t u) : samePrivileged s u := by
  obtain ⟨hM, hI, hF, hspsr, hcontrol, httb, hdacr, hwait, hregs⟩ := h
  obtain ⟨hM', hI', hF', hspsr', hcontrol', httb', hdacr', hwait', hregs'⟩ := h'
  exact ⟨hM'.trans hM, hI'.trans hI, hF'.trans hF, hspsr'.trans hspsr, hcontrol'.trans hcontrol, httb'.trans httb,
    hdacr'.trans hdacr, hwait'.trans hwait, fun p hp => (hregs' p hp).trans (hregs p hp)⟩

theorem samePrivileged_setReg (h : s.mode = .usr) (n : RegNum) (v : Word) : samePrivileged s (s.setReg n v) :=
  ⟨by simp, by simp, by simp, by simp, by simp, by simp, by simp, by simp,
    fun p hp => s.setReg_get_other v (by rw [h]; exact Mode.cell_usr_ne_banked n p hp)⟩

/-- A CPSR write that keeps the control byte but for T. -/
theorem samePrivileged_cpsr {p : Word} (h : ∀ j, j < 8 → j ≠ 5 → p.getLsbD j = s.cpsr.getLsbD j) :
    samePrivileged s { s with cpsr := p } :=
  ⟨psrM_congr fun j hj => h j (by omega) (by omega), h 7 (by omega) (by omega), h 6 (by omega) (by omega), rfl, rfl,
    rfl, rfl, rfl, fun _ _ => rfl⟩

/-- The guards of the restore of an SPSR, of its write and of the CP15 writes fail in User mode (R105, R702). -/
theorem Upd.samePrivileged (h : Upd A s t) (hu : psrM s.cpsr = 0b10000#5) : samePrivileged s t := by
  have hmode : s.mode = .usr := State.mode_of_bits hu
  have hpriv : ¬ s.privileged = true := fun hp => s.privileged_iff.1 hp hu
  cases h with
  | reg n v => exact samePrivileged_setReg hmode n v
  | userReg n v =>
    rw [State.setUserReg_of_usr hmode]
    exact samePrivileged_setReg hmode n v
  | flags p hp => exact samePrivileged_cpsr fun j hj _ => hp j (by omega)
  | status p _ _ hp => exact samePrivileged_cpsr fun j hj _ => hp (Bool.eq_false_iff.2 hpriv) j (by omega)
  | exchange b v _ =>
    have hT : samePrivileged s { s with cpsr := withT s.cpsr b } :=
      samePrivileged_cpsr fun j _ hj => by rw [getLsbD_withT, if_neg hj]
    exact hT
  | restore b _ hb _ _ | saved b _ hb =>
    rw [hmode] at hb
    cases hb
  | control _ hp | ttb _ hp | dacr _ hp | fsr _ hp | far _ hp | wait hp => exact absurd hp hpriv
  | fault va st dom => simp [Machine.samePrivileged]
  | jump _ _ | store _ _ _ | request _ _ _ => exact samePrivileged_refl s

theorem Upds.samePrivileged (h : Upds A s t) (hu : psrM s.cpsr = 0b10000#5) : samePrivileged s t := by
  induction h with
  | refl => exact samePrivileged_refl s
  | tail _ h ih => exact ih.trans (h.samePrivileged (ih.1.trans hu))

/-- Settles O60: an instruction is finitely many elementary updates, and each of them leaves User mode in place for the
next. -/
theorem userModeIsConfined : Obligations.UserModeIsConfined := by
  unfold Obligations.UserModeIsConfined
  intro i s t hu h
  exact (exec_upds h).samePrivileged hu

end Sys2Proof.Machine
end

section
/-! PROOFS. The Thumb branches (O30). -/

namespace Sys2Proof.Machine

/-! ## Branch offsets in exact arithmetic (R820, R822, R851, R852) -/

theorem State.thumbTarget8_eq (s : State) (imm8 : BitVec 8) :
    s.thumbTarget8 imm8 = BitVec.ofInt 32 ((s.pc.toNat : Int) + 4 + 2 * imm8.toInt) :=
  add_signExtend_shiftLeft_eq_ofInt s.pc 4 imm8 1

theorem State.thumbTarget11_eq (s : State) (imm11 : BitVec 11) :
    s.thumbTarget11 imm11 = BitVec.ofInt 32 ((s.pc.toNat : Int) + 4 + 2 * imm11.toInt) :=
  add_signExtend_shiftLeft_eq_ofInt s.pc 4 imm11 1

/-- The bytes that the first halfword of a BL or BLX pair moves the target by. -/
def callHigh (sg : Bool) (i10 : BitVec 10) : Int := (if sg then -2 ^ 22 else 0) + (i10.toNat : Int) * 2 ^ 12

/-- A signed field made of a sign, a high part and a low part. -/
theorem toInt_sign_append {n m : Nat} (sg : Bool) (x : BitVec n) (y : BitVec m) :
    (BitVec.ofBool sg ++ x ++ y : BitVec (1 + n + m)).toInt
      = 2 ^ m * (2 ^ n * (if sg then -1 else 0) + (x.toNat : Int)) + (y.toNat : Int) := by
  have hsign : (BitVec.ofBool sg).toInt = if sg then -1 else 0 := by cases sg <;> rfl
  have hone : (1 + n == 0) = false := by simp
  rw [BitVec.toInt_append, BitVec.toInt_append, hsign, hone]
  simp

theorem blOffset_eq (sg : Bool) (i10 : BitVec 10) (imm11 : BitVec 11) :
    blOffset sg i10 imm11 = BitVec.ofInt 32 (callHigh sg i10 + 2 * (imm11.toNat : Int)) := by
  rw [blOffset, signExtend_shiftLeft_eq_ofInt, toInt_sign_append, callHigh]
  congr 1
  cases sg <;> simp <;> ring

theorem blxOffset_eq (sg : Bool) (i10 l10 : BitVec 10) :
    blxOffset sg i10 l10 = BitVec.ofInt 32 (callHigh sg i10 + 4 * (l10.toNat : Int)) := by
  rw [blxOffset, signExtend_shiftLeft_eq_ofInt, toInt_sign_append, callHigh]
  congr 1
  cases sg <;> simp <;> ring

theorem blTarget_eq (s : State) (sg : Bool) (i10 : BitVec 10) (imm11 : BitVec 11) :
    s.pc + 4#32 + blOffset sg i10 imm11
      = BitVec.ofInt 32 ((s.pc.toNat : Int) + 4 + callHigh sg i10 + 2 * (imm11.toNat : Int)) := by
  rw [blOffset_eq, add_assoc ((s.pc.toNat : Int) + 4), BitVec.ofInt_add ((s.pc.toNat : Int) + 4),
    BitVec.ofInt_add (s.pc.toNat : Int), BitVec.ofInt_natCast, BitVec.ofNat_toNat, BitVec.setWidth_eq]
  rfl

/-! ## The instructions -/

theorem exec_thumbBCond_passed {s : State} {c : Cond} (hc : condPassed c s.cpsr = true) (imm8 : BitVec 8) :
    exec (.thumbBCond c imm8) s = .next (s.jump (s.thumbTarget8 imm8)) := by
  show runAct _ s = _
  rw [runAct_outcomeOf, whenPassed_passed hc, act_bind_ok (look_apply _ s), branchWritePC_apply, outcomeOf_ok]

theorem exec_thumbB (imm11 : BitVec 11) (s : State) :
    exec (.thumbB imm11) s = .next (s.jump (s.thumbTarget11 imm11)) := by
  show execThumbB imm11 s = _
  rw [execThumbB, runAct_outcomeOf, act_bind_ok (look_apply _ s), branchWritePC_apply, outcomeOf_ok]

theorem exec_thumb32Bl (sg : Bool) (i10 : BitVec 10) (imm11 : BitVec 11) (s : State) :
    exec (.thumb32Bl sg i10 true true imm11) s
      = .next ((s.setReg 14#4 s.thumbLink).jump (s.pc + 4#32 + blOffset sg i10 imm11)) := by
  show execThumb32Bl sg i10 true true imm11 s = _
  rw [execThumb32Bl, Bool.and_self, if_pos rfl, runAct_outcomeOf, act_bind_ok (look_apply _ s),
    act_bind_ok (look_apply _ s), act_bind_ok (writeReg_apply _ _ s), branchWritePC_apply, outcomeOf_ok]

theorem exec_thumb32BlxImm (sg : Bool) (i10 l10 : BitVec 10) (h : Bool) (s : State) :
    exec (.thumb32BlxImm sg i10 true true l10 h) s
      = if h then .refused (.unpredictable .blxHalfword)
        else .next ((s.setReg 14#4 s.thumbLink).switchTo false
          (((s.pc + 4#32) &&& 0xFFFFFFFC#32) + blxOffset sg i10 l10)) := by
  show execThumb32BlxImm sg i10 true true l10 h s = _
  rw [execThumb32BlxImm, Bool.and_self, if_pos rfl, runAct_outcomeOf]
  cases h with
  | true => rw [act_bind_error (unpredictableIf_true _ s), outcomeOf_refused, if_pos rfl]
  | false =>
    rw [act_bind_ok (unpredictableIf_false _ s), act_bind_ok (look_apply _ s), act_bind_ok (look_apply _ s),
      act_bind_ok (writeReg_apply _ _ s), act_bind_ok (change_apply _ _), branchWritePC_apply, outcomeOf_ok]
    rfl

/-- Settles O30: BLX is BL with a switch of the instruction set, as in ARM state. -/
theorem thumbBranches : Obligations.ThumbBranches := by
  unfold Obligations.ThumbBranches
  intro s c imm8 imm11 sg i10 l10
  obtain ⟨hT, hframe, hbits⟩ :=
    s.switchTo_setReg false s.thumbLink (((s.pc + 4#32) &&& 0xFFFFFFFC#32) + blxOffset sg i10 l10)
  refine ⟨fun hc => ?_, ?_, ?_, ⟨_, exec_thumb32BlxImm sg i10 l10 false s, hT, ?_, hframe, hbits⟩,
    exec_thumb32BlxImm sg i10 l10 true s⟩
  · rw [exec_thumbBCond_passed hc, State.thumbTarget8_eq]
    rfl
  · rw [exec_thumbB, State.thumbTarget11_eq]
    rfl
  · rw [exec_thumb32Bl, blTarget_eq]
    rfl
  · exact congrArg (((s.pc + 4#32) &&& 0xFFFFFFFC#32) + ·) (blxOffset_eq sg i10 l10)

end Sys2Proof.Machine
end

section
/-! PROOFS. The Thumb stores of one register (O43). -/

namespace Sys2Proof.Machine

section
variable {s : State} {rm rn rd : LowReg} {i5 : BitVec 5} {i8 : BitVec 8} {i : Instr} {n : AccSize} {a pa : Word}

/-- A store listed in thumbAccesses runs the store of its size. -/
theorem exec_thumbStore (hx : (i, a, n, false) ∈ thumbAccesses s rm rn rd i5 i8) :
    exec i s = outcomeOf (storeUnit n (lowReg rd) a s) := exec_thumbAccesses s rm rn rd i5 i8 _ hx

/-- A store of each size, where it is answered (R205, R207). -/
theorem storeUnit_ok (ho : n = .half → s.oddHalfword a = false) (h : s.storesAt a n s.privileged pa) (rd : RegNum) :
    storeUnit n rd a s = .ok ((), s.store n (n.align pa) (s.reg rd)) := by
  cases n with
  | half => exact storeHalf_ok (ho rfl) h rd
  | byte | word => exact storeReg_stores s.accessPriv_false h rd

theorem exec_thumbStore_stored (hwf : s.mem.wf = true) (hx : (i, a, n, false) ∈ thumbAccesses s rm rn rd i5 i8)
    (ho : n = .half → s.oddHalfword a = false) (h : s.storesAt a n s.privileged pa) :
    ∃ t, storedAt s t n pa (s.reg (rd.setWidth 4)) ∧ exec i s = .next t := by
  refine ⟨_, storedAt_store hwf n pa (s.reg (lowReg rd)), ?_⟩
  rw [exec_thumbStore hx, storeUnit_ok ho h, outcomeOf_ok]

theorem exec_thumbStore_odd (hx : (i, a, .half, false) ∈ thumbAccesses s rm rn rd i5 i8) (ho : s.oddHalfword a = true) :
    exec i s = .refused (.unpredictable .misalignedHalfword) := by
  rw [exec_thumbStore hx, storeUnit, storeHalf_odd ho, outcomeOf_refused]

end

/-- Settles O43: each list of the statement is part of thumbAccesses. -/
theorem thumbStores : Obligations.ThumbStores := by
  unfold Obligations.ThumbStores
  intro s rm rn rd i5 i8 i a pa hwf
  simp only [List.mem_cons, Prod.mk.injEq, List.not_mem_nil, or_false]
  refine ⟨fun h hs => ?_, fun h hs => ?_, fun h => ?_⟩
  · have hx : (i, a, .word, false) ∈ thumbAccesses s rm rn rd i5 i8 := by
      rcases h with ⟨rfl, rfl⟩ | ⟨rfl, rfl⟩ | ⟨rfl, rfl⟩ <;> simp [thumbAccesses]
    exact exec_thumbStore_stored hwf hx AccSize.noConfusion hs
  · have hx : (i, a, .byte, false) ∈ thumbAccesses s rm rn rd i5 i8 := by
      rcases h with ⟨rfl, rfl⟩ | ⟨rfl, rfl⟩ <;> simp [thumbAccesses]
    exact exec_thumbStore_stored hwf hx AccSize.noConfusion hs
  · have hx : (i, a, .half, false) ∈ thumbAccesses s rm rn rd i5 i8 := by
      rcases h with ⟨rfl, rfl⟩ | ⟨rfl, rfl⟩ <;> simp [thumbAccesses]
    exact ⟨fun ho hs => exec_thumbStore_stored hwf hx (fun _ => ho) hs, exec_thumbStore_odd hx⟩

end Sys2Proof.Machine
end

section
/-! PROOFS. The exception-generating instructions, and the entry of an exception (O34, O46). -/

namespace Sys2Proof.Machine

/-! ## Requests (R655 to R657, R825 to R827, R853, R905) -/

theorem Pending.get_set (p : Pending) (k k' : ExcKind) (v : Option Reason) :
    (p.set k v).get k' = if k' = k then v else p.get k' := by
  cases k <;> cases k' <;> rfl

theorem Pending.get_empty (k : ExcKind) : Pending.empty.get k = none := by cases k <;> rfl

/-- The end of an instruction that only raises. -/
theorem outcomeOf_raise (k : ExcKind) (why : Reason) (s : State) :
    outcomeOf ((raise k why : Act Unit) s)
      = if s.pending = Pending.empty then .next (s.request k why) else .fault .raiseWhileOutstanding := by
  rw [raise_apply]
  split <;> rfl

/-- The instructions that request an exception, the conditional ones with their condition passed: what each is, the
exception and the reason of its raise. -/
def requests (s : State) (c : Cond) (i24 : BitVec 24) (i12 u12 : BitVec 12) (i4 : BitVec 4) (i8 : BitVec 8) (w : Word)
    (h : Half) (i : Instr) (k : ExcKind) (why : Reason) : Prop :=
  (i = .armSwi c i24 ∧ condPassed c s.cpsr = true ∧ k = .softwareInterrupt ∧ why = .swi)
    ∨ (i = .armBkpt .al i12 i4 ∧ k = .prefetchAbort ∧ why = .bkpt)
    ∨ (i = .armUndefined w ∧ (w.extractLsb' 28 4 = 0xF#4 ∨ condPassed (.ofBits (w.extractLsb' 28 4)) s.cpsr = true)
      ∧ k = .undefinedInstruction ∧ why = .undefinedWord)
    ∨ (i = .thumbSwi i8 ∧ k = .softwareInterrupt ∧ why = .swi)
    ∨ (i = .thumbBkpt i8 ∧ k = .prefetchAbort ∧ why = .bkpt)
    ∨ (i = .thumbUndefined h ∧ k = .undefinedInstruction ∧ why = .undefinedWord)
    ∨ (i = .thumb32Udf i4 u12 ∧ k = .undefinedInstruction ∧ why = .permanentlyUndefined)

/-- Each of them is its raise and nothing else. -/
theorem exec_of_requests {s : State} {c : Cond} {i24 : BitVec 24} {i12 u12 : BitVec 12} {i4 : BitVec 4} {i8 : BitVec 8}
    {w : Word} {h : Half} {i : Instr} {k : ExcKind} {why : Reason}
    (hi : requests s c i24 i12 u12 i4 i8 w h i k why) : exec i s = outcomeOf ((raise k why : Act Unit) s) := by
  rcases hi with ⟨rfl, hc, rfl, rfl⟩ | ⟨rfl, rfl, rfl⟩ | ⟨rfl, hc, rfl, rfl⟩ | ⟨rfl, rfl, rfl⟩ | ⟨rfl, rfl, rfl⟩
    | ⟨rfl, rfl, rfl⟩ | ⟨rfl, rfl, rfl⟩
  case inl =>
    show runAct (whenPassed c _) s = _
    rw [runAct_outcomeOf, whenPassed_passed hc]
  case inr.inl =>
    show execArmBkpt .al i12 i4 s = _
    rw [execArmBkpt, runAct_outcomeOf, bne_self_eq_false, act_bind_ok (unpredictableIf_false _ s)]
  case inr.inr.inl =>
    show execArmUndefined w s = _
    rw [execArmUndefined, runAct_outcomeOf]
    split
    · rfl
    · next hF => rw [whenPassed_passed (hc.resolve_left hF)]
  all_goals exact runAct_outcomeOf _ s

theorem exec_armBkpt_conditional {c : Cond} (hc : c ≠ .al) (i12 : BitVec 12) (i4 : BitVec 4) (s : State) :
    exec (.armBkpt c i12 i4) s = .refused (.unpredictable .bkptCondition) := by
  show execArmBkpt c i12 i4 s = _
  rw [execArmBkpt, runAct_outcomeOf, bne_iff_ne.2 hc, act_bind_error (unpredictableIf_true _ s), outcomeOf_refused]

/-- A request made with no exception pending is entered by the next dispatch, from the state before it (R900). -/
theorem State.dispatch_request {s : State} (hp : s.pending = Pending.empty) (k : ExcKind) (why : Reason) :
    (s.request k why).dispatch = s.enterException k := by
  have hfirst : (s.request k why).pending.first = some k := by
    rw [State.request_pending, hp, Pending.first_set_empty]
  have hback : ({ s.request k why with pending := (s.request k why).pending.set k none } : State) = s := by
    rw [State.request_pending, hp, Pending.set_none_set_empty, ← hp]
    rfl
  rw [State.dispatch_of_first hfirst, hback]

/-- Settles O34. -/
theorem exceptionRequests : Obligations.ExceptionRequests := by
  unfold Obligations.ExceptionRequests
  intro s c i24 i12 u12 i4 i8 w h i k why
  refine ⟨fun hc => exec_armBkpt_conditional hc i12 i4 s, fun hi => ?_⟩
  rw [exec_of_requests hi, outcomeOf_raise]
  refine ⟨fun hp => ⟨s.request k why, if_pos hp, ?_, fun k' hk => ?_, ?_, State.dispatch_request hp k why⟩,
    fun hp => if_neg hp⟩
  · rw [State.request_pending, Pending.get_set, if_pos rfl]
  · rw [State.request_pending, hp, Pending.get_set, if_neg hk, Pending.get_empty]
  · rw [← hp]
    rfl

/-! ## Entry (R910 to R916) -/

/-- The CPSR in force in the handler, bit by bit (R910, R911, R914). -/
theorem getLsbD_entryCpsr (k : ExcKind) (p : Word) (j : Nat) :
    (entryCpsr k p).getLsbD j
      = if j = 7 then true else if j = 6 then k.masksFiq || p.getLsbD 6 else if j = 5 then false
        else if j < 5 then k.bank.mode.bits.getLsbD j else p.getLsbD j := by
  have hset (j : Nat) : (setBit (withT (withM p k.bank.mode) false) 7 true).getLsbD j
      = if j = 7 then true else if j = 5 then false else if j < 5 then k.bank.mode.bits.getLsbD j else p.getLsbD j := by
    rw [getLsbD_setBit _ _ _ _ (by decide), getLsbD_withT, getLsbD_withM]
  by_cases h6 : j = 6
  · subst h6
    unfold entryCpsr
    cases k.masksFiq with
    | true => exact (getLsbD_setBit _ 6 6 true (by decide)).trans rfl
    | false => exact hset 6
  · have hsame : (entryCpsr k p).getLsbD j = (setBit (withT (withM p k.bank.mode) false) 7 true).getLsbD j := by
      unfold entryCpsr
      cases k.masksFiq with
      | true => exact (getLsbD_setBit _ 6 j true (by decide)).trans (if_neg h6)
      | false => rfl
    rw [hsame, hset, if_neg h6]

theorem State.enterException_mode (s : State) (k : ExcKind) : (s.enterException k).mode = k.bank.mode :=
  State.mode_of_bits (psrM_entryCpsr k s.cpsr)

theorem Bank.bank_mode (b : Bank) : b.mode.bank = some b := by cases b <;> rfl

theorem State.enterException_bank (s : State) (k : ExcKind) : (s.enterException k).mode.bank = some k.bank := by
  rw [State.enterException_mode, Bank.bank_mode]

/-- The handler's R14 is the cell that the entry writes (R103). -/
theorem State.enterException_cell_lr (s : State) (k : ExcKind) :
    (s.enterException k).mode.cell 14#4 = some (Bank.lr (some k.bank)) := by
  rw [State.enterException_mode]
  cases k <;> rfl

theorem State.enterException_regs {s : State} {k : ExcKind} {off : Word} (h : s.lrOffset k = some off) :
    (s.enterException k).regs = s.regs.set (Bank.lr (some k.bank)) (s.pc + off) := by
  unfold State.enterException
  rw [h]

theorem State.enterException_reset_regs (s : State) : (s.enterException .reset).regs = s.regs := rfl

/-- The return address is in the handler's R14 (R913). -/
theorem State.enterException_lr {s : State} {k : ExcKind} {off : Word} (h : s.lrOffset k = some off) :
    (s.enterException k).reg 14#4 = s.pc + off := by
  rw [State.reg_of_cell (s.enterException_cell_lr k), State.enterException_regs h, Regs.get_set_same]

theorem State.lrOffset_isSome (s : State) {k : ExcKind} (h : k ≠ .reset) : ∃ off, s.lrOffset k = some off := by
  cases k
  case reset => exact absurd rfl h
  all_goals exact ⟨_, rfl⟩

/-- But for R14, an entry leaves the registers as they were (R910). -/
theorem State.enterException_get_other {s : State} {k : ExcKind} (hk : k ≠ .reset) {q : PhysReg}
    (hq : (s.enterException k).mode.cell 14#4 ≠ some q) : (s.enterException k).regs.get q = s.regs.get q := by
  obtain ⟨off, hoff⟩ := s.lrOffset_isSome hk
  rw [State.enterException_cell_lr] at hq
  rw [State.enterException_regs hoff, Regs.get_set_other]
  exact fun h => hq (congrArg some h.symm)

theorem LrOffset.toWord_eq (o : LrOffset) : o.toWord = if o = .eight then 8#32 else 4#32 := by cases o <;> rfl

/-- Settles O46. -/
theorem exceptionEntry : Obligations.ExceptionEntry := by
  unfold Obligations.ExceptionEntry
  intro s k t
  have hbit (j : Nat) : t.cpsr.getLsbD j = _ := getLsbD_entryCpsr k s.cpsr j
  refine ⟨(psrM_entryCpsr k s.cpsr).trans (by cases k <;> rfl), psrT_entryCpsr k s.cpsr, hbit 7, (hbit 6).trans ?_,
    fun j hj => ?_, s.enterException_bank k, s.spsr.get_set_same k.bank s.cpsr, fun b hb => s.spsr.get_set_other _ hb,
    ?_, fun hk => ⟨?_, fun q hq => State.enterException_get_other hk hq⟩, ?_, rfl⟩
  · cases k <;> rfl
  · rw [hbit, if_neg (by omega), if_neg (by omega), if_neg (by omega), if_neg (by omega)]
  · rintro rfl
    exact s.enterException_reset_regs
  · rw [← LrOffset.toWord_eq]
    cases k
    case reset => rfl
    all_goals exact State.enterException_lr rfl
  · exact congrArg (s.vectorBase + ·) (by cases k <;> rfl)

end Sys2Proof.Machine
end

section
/-! PROOFS. The return from a handler (O48). -/

namespace Sys2Proof.Machine

/-! ## An aligned PC (R107, R109) -/

theorem and_clearBit0_of_even {v : Word} (h : v.getLsbD 0 = false) : v &&& 0xFFFFFFFE#32 = v := by
  apply BitVec.eq_of_getLsbD_eq
  intro i hi
  rcases i with _ | i
  · rw [BitVec.getLsbD_and, h, Bool.false_and]
  · have hset : (0xFFFFFFFE#32).getLsbD (i + 1) = true := by
      have hi : i < 31 := by omega
      interval_cases i <;> rfl
    rw [BitVec.getLsbD_and, hset, Bool.and_true]

/-- A value aligned for the current instruction set is written to the PC as it is. -/
theorem State.aluTo_of_aligned {s : State} {v : Word} (h : alignedFor (psrT s.cpsr) v) : s.aluTo v = some (s.jump v) := by
  unfold State.aluTo
  cases ht : psrT s.cpsr <;> rw [ht] at h
  · rw [if_neg Bool.false_ne_true]
    exact if_pos h
  · rw [if_pos rfl, and_clearBit0_of_even h]

/-! ## The return idioms (R913, R921) -/

/-- The handler's state with the entry's CPSR and the PC d bytes past the entry's. -/
def State.returned (s : State) (k : ExcKind) (d : Word) : State :=
  { s.enterException k with cpsr := s.cpsr, pc := s.pc + d, jumped := true }

section
variable {s : State} {k : ExcKind} (hm : s.modeLegal) (hpc : s.pcAligned)
include hm hpc

/-- A return from the handler to an address aligned for the interrupted code restores the saved status (R406, R921). -/
theorem returnFromException_entered {d : Word} (hd : alignedFor (psrT s.cpsr) d) :
    outcomeOf (returnFromException (s.pc + d) (s.enterException k)) = .next (s.returned k d) := by
  have hsaved : (s.enterException k).spsr.get k.bank = s.cpsr := Spsrs.get_set_same _ _ _
  have halu : ({ s.enterException k with cpsr := s.cpsr } : State).aluTo (s.pc + d) = some (s.returned k d) :=
    State.aluTo_of_aligned (alignedFor_add (s.pcAligned_iff.1 hpc) hd)
  have hlegal : (Mode.ofBits (psrM s.cpsr)).isSome = true := hm
  rw [outcomeOf_returnFromException, s.enterException_bank]
  dsimp only
  rw [hsaved, if_pos hlegal, halu]

/-- MOVS pc, lr goes on at the return address. -/
theorem exec_movs_pc_lr {off : Word} (hoff : s.lrOffset k = some off) (ha : alignedFor (psrT s.cpsr) off) :
    exec (.armMov .al true 0#4 15#4 (.immShift 14#4 .lsl 0#5)) (s.enterException k) = .next (s.returned k off) := by
  have hf : (Instr.armMov .al true 0#4 15#4 (.immShift 14#4 .lsl 0#5), DpOp.mov)
      ∈ dpForms .al true 14#4 15#4 (.immShift 14#4 .lsl 0#5) ++ moveForms .al true 15#4 (.immShift 14#4 .lsl 0#5) :=
    List.mem_append_right _ List.mem_cons_self
  have hv : ((s.enterException k).dpOut .mov 14#4 (.immShift 14#4 .lsl 0#5)).result = s.pc + off :=
    State.enterException_lr hoff
  rw [exec_dpToPc rfl rfl hf, if_pos rfl, hv, returnFromException_entered hm hpc ha]

/-- SUBS pc, lr with the entry's offset goes on at the interrupted instruction. -/
theorem exec_subs_pc_lr {n : Byte} (hoff : s.lrOffset k = some (n.setWidth 32)) :
    exec (.armSub .al true 14#4 15#4 (.imm 0#4 n)) (s.enterException k) = .next (s.returned k 0#32) := by
  have hf : (Instr.armSub .al true 14#4 15#4 (.imm 0#4 n), DpOp.sub)
      ∈ dpForms .al true 14#4 15#4 (.imm 0#4 n) ++ moveForms .al true 15#4 (.imm 0#4 n) :=
    List.mem_append_left _ (by simp [dpForms])
  have himm : rotatedImm 0#4 n = n.setWidth 32 := rotateRight_zero (n.setWidth 32)
  have hv : ((s.enterException k).dpOut .sub 14#4 (.imm 0#4 n)).result = s.pc + 0#32 := by
    calc ((s.enterException k).dpOut .sub 14#4 (.imm 0#4 n)).result
        = (s.enterException k).reg 14#4 - rotatedImm 0#4 n := addWithCarry_sub _ _
      _ = s.pc + n.setWidth 32 - n.setWidth 32 := by rw [State.enterException_lr hoff, himm]
      _ = s.pc + 0#32 := by rw [BitVec.add_sub_cancel, BitVec.add_zero]
  have hzero : alignedFor (psrT s.cpsr) 0#32 := by cases psrT s.cpsr <;> exact rfl
  rw [exec_dpToPc rfl rfl hf, if_pos rfl, hv, returnFromException_entered hm hpc hzero]

end

/-- Settles O48: each idiom takes the return address apart as the entry made it. -/
theorem returnFromHandler : Obligations.ReturnFromHandler := by
  unfold Obligations.ReturnFromHandler
  intro s k hm hpc
  have hlen : alignedFor (psrT s.cpsr) (if psrT s.cpsr then 2#32 else 4#32) := by cases psrT s.cpsr <;> exact rfl
  refine ⟨?_, ?_, ?_, ?_, ?_⟩
  · rintro (rfl | rfl) <;> exact exec_movs_pc_lr hm hpc rfl hlen
  · rintro rfl
    exact exec_subs_pc_lr hm hpc rfl
  · rintro rfl
    exact exec_subs_pc_lr hm hpc rfl
  · rintro (rfl | rfl) h8 <;> exact exec_subs_pc_lr hm hpc (by rw [State.lrOffset, h8]; rfl)
  · rintro (rfl | rfl) h4 <;> exact exec_subs_pc_lr hm hpc (by rw [State.lrOffset, h4]; rfl)

end Sys2Proof.Machine
end

section
/-! PROOFS. The phases of a step before the fetch: dispatch and sampling (O47, O49). -/

namespace Sys2Proof.Machine

variable {s s' t : State} {l : Lines}

/-! ## Dispatch (R900, R907) -/

/-- An active step depends on the state after dispatch only. -/
theorem activeStep_congr_dispatch (h : s'.dispatch = s.dispatch) (l : Lines) : activeStep l s' = activeStep l s := by
  unfold activeStep
  rw [h]

/-- The one pending exception is cleared and entered. -/
theorem State.dispatch_of_pending {k : ExcKind} {why : Reason} (h : s.pending = Pending.empty.set k (some why)) :
    s.dispatch = ({ s with pending := Pending.empty } : State).enterException k := by
  have hfirst : s.pending.first = some k := by rw [h, Pending.first_set_empty]
  rw [State.dispatch_of_first hfirst, h, Pending.set_none_set_empty]

/-- Settles O47: both steps have one state after dispatch, and the same lines. -/
theorem pendingIsEnteredFirst : Obligations.PendingIsEnteredFirst := by
  unfold Obligations.PendingIsEnteredFirst
  intro s k why hw hp
  have hpending : s.sampled.pending = Pending.empty.set k (some why) := hp
  have hentered : (({ s with pending := Pending.empty } : State).enterException k).sampled.dispatch
      = ({ s.sampled with pending := Pending.empty } : State).enterException k := State.dispatch_of_empty rfl
  have hright := step_not_waiting (s := ({ s with pending := Pending.empty } : State).enterException k) hw
  rw [step_not_waiting hw, hright]
  exact activeStep_congr_dispatch ((State.dispatch_of_pending hpending).trans hentered.symm) _

/-! ## Sampling (R931) -/

theorem sampleLines_fiq (hf : (l.fiq && !psrF s.cpsr) = true) (hp : s.pending = Pending.empty) :
    sampleLines l s = .error (.raised (s.request .fiq .fiqLine)) := by
  unfold sampleLines
  rw [if_pos hf, raise_empty hp]

theorem sampleLines_irq (hf : (l.fiq && !psrF s.cpsr) = false) (hi : (l.irq && !psrI s.cpsr) = true)
    (hp : s.pending = Pending.empty) : sampleLines l s = .error (.raised (s.request .irq .irqLine)) := by
  unfold sampleLines
  rw [if_neg (Bool.eq_false_iff.1 hf), if_pos hi, raise_empty hp]

/-- A line that is taken ends the step. -/
theorem activeStep_sampled (h : sampleLines l s.dispatch = .error (.raised t)) : activeStep l s = .next t.endStep := by
  unfold activeStep
  rw [act_bind_error h]

/-- Masked lines are as low lines. -/
theorem activeStep_masked (hf : (l.fiq && !psrF s.dispatch.cpsr) = false)
    (hi : (l.irq && !psrI s.dispatch.cpsr) = false) : activeStep l s = activeStep ⟨false, false⟩ s := by
  unfold activeStep
  rw [act_bind_ok (sampleLines_masked hf hi), act_bind_ok (sampleLines_masked rfl rfl)]

/-- A core that is not waiting takes the first line values of its schedule. -/
theorem step_of_lines {rest : List Lines} (hw : s.waiting = false) (hl : s.lines = l :: rest) :
    step s = activeStep l { s with lines := rest } := by
  rw [step_not_waiting hw, State.currentLines_cons hl, State.sampled, hl, List.tail_cons]

/-- Settles O49. -/
theorem interruptsAreSampled : Obligations.InterruptsAreSampled := by
  unfold Obligations.InterruptsAreSampled
  intro s rest irq fiq hw hl hp d
  have hempty : d.pending = Pending.empty := State.onePending.dispatch_pending (s := { s with lines := rest }) hp
  rw [step_of_lines hw hl]
  refine ⟨fun hf hF => ?_, fun hf hi hI => ?_, fun hf hi => ?_⟩
  · have htaken : (fiq && !psrF d.cpsr) = true := by rw [hf, hF]; rfl
    rw [activeStep_sampled (sampleLines_fiq htaken hempty), State.request_of_empty hempty]
    rfl
  · have htaken : (irq && !psrI d.cpsr) = true := by rw [hi, hI]; rfl
    rw [activeStep_sampled (sampleLines_irq hf htaken hempty), State.request_of_empty hempty]
    rfl
  · rw [activeStep_masked hf hi, step_of_lines (s := { s with lines := ⟨false, false⟩ :: rest }) hw rfl]

end Sys2Proof.Machine
end
